-- ==== Sys2Proof/Word.lean ====
section
/-! DEFINITION. The word types of the xbm_format classifier/packer: registers are 32 bits (00_scope R5), memory holds
bytes (20_memory R60). Every value is unsigned (00_scope R7). -/

namespace Sys2Proof

/-- A register, and a memory address: 32 bits (00_scope R5, decisions D5 and D8). -/
abbrev Word := BitVec 32

/-- One byte of memory, one channel of a pixel, or one packed byte (20_memory R61). -/
abbrev Byte := BitVec 8

end Sys2Proof
end

