-- ==== Sys2Proof/Config.lean ====
section
/-! DEFINITION. What the platform fixes and the spec leaves open. MEM_ADMITS is not here: the model takes it as an
argument (93_implementation_defined I12), the field `admits` of State. -/

namespace Sys2Proof.Config

/-- One more than the highest memory address (20_memory R60: byte addresses are 0 .. 2^32 - 1). -/
def addressSpaceSize : Nat := 2 ^ 32

/-- FREE VALUE (log 10). A host read of a DST byte while BUSY = 1 returns the byte's value before the START or its
final value, and the model admits both (20_memory R72). Which of the two the `k`-th such read returns is this
constant, which has no body: nothing can be proved of it. -/
opaque raceReadsFinal : Nat → Bool

end Sys2Proof.Config
end

