-- ==== Sys2Proof/Syntax.lean ====
section
/-! DEFINITION. The instructions: one constructor per row of spec/opcode_table.json, in the table's order. A host
register transaction is an instruction of this hardware (42_host_access), and so is a MODE3 code driven on the
classifier's mode port (30_encoding R96, R102). -/

namespace Sys2Proof

/-- The sixteen registers by index (30_encoding R94). -/
inductive RegName where
  | id | ctrl | status | cfg | cthr | athr | width | height
  | srcBase | srcLen | dstBase | dstLen | bytes | pixel | cls | rsv15
  deriving DecidableEq, Repr

/-- The policy modes, a closed set of four, and the codes outside it (30_encoding R96). -/
inductive PolicyMode where
  | colorAndAlpha | colorOrAlpha | onlyAlpha | ignoreAlpha | invalid
  deriving DecidableEq, Repr

/-- A read carries no operand (its DATA is ignored, 30_encoding R90); a write carries its whole DATA word. -/
inductive Instr where
  /-- RD_ID, 42_host_access R221. -/
  | rdId
  /-- WR_ID, 42_host_access R251. -/
  | wrId (data : Word)
  /-- RD_CTRL, 42_host_access R224. -/
  | rdCtrl
  /-- WR_CTRL_NOP, 42_host_access R223. -/
  | wrCtrlNop (data : Word)
  /-- WR_CTRL_START, 42_host_access R222. -/
  | wrCtrlStart (data : Word)
  /-- RD_STATUS, 42_host_access R225. -/
  | rdStatus
  /-- WR_STATUS, 42_host_access R226. -/
  | wrStatus (data : Word)
  /-- RD_CFG, 42_host_access R227. -/
  | rdCfg
  /-- WR_CFG, 42_host_access R228. -/
  | wrCfg (data : Word)
  /-- RD_CTHR, 42_host_access R229. -/
  | rdCthr
  /-- WR_CTHR, 42_host_access R230. -/
  | wrCthr (data : Word)
  /-- RD_ATHR, 42_host_access R231. -/
  | rdAthr
  /-- WR_ATHR, 42_host_access R232. -/
  | wrAthr (data : Word)
  /-- RD_WIDTH, 42_host_access R233. -/
  | rdWidth
  /-- WR_WIDTH, 42_host_access R234. -/
  | wrWidth (data : Word)
  /-- RD_HEIGHT, 42_host_access R235. -/
  | rdHeight
  /-- WR_HEIGHT, 42_host_access R236. -/
  | wrHeight (data : Word)
  /-- RD_SRC_BASE, 42_host_access R237. -/
  | rdSrcBase
  /-- WR_SRC_BASE, 42_host_access R238. -/
  | wrSrcBase (data : Word)
  /-- RD_SRC_LEN, 42_host_access R239. -/
  | rdSrcLen
  /-- WR_SRC_LEN, 42_host_access R240. -/
  | wrSrcLen (data : Word)
  /-- RD_DST_BASE, 42_host_access R241. -/
  | rdDstBase
  /-- WR_DST_BASE, 42_host_access R242. -/
  | wrDstBase (data : Word)
  /-- RD_DST_LEN, 42_host_access R243. -/
  | rdDstLen
  /-- WR_DST_LEN, 42_host_access R244. -/
  | wrDstLen (data : Word)
  /-- RD_BYTES, 42_host_access R245. -/
  | rdBytes
  /-- WR_BYTES, 42_host_access R246. -/
  | wrBytes (data : Word)
  /-- RD_PIXEL, 42_host_access R247. -/
  | rdPixel
  /-- WR_PIXEL, 42_host_access R248. -/
  | wrPixel (data : Word)
  /-- RD_CLASS, 42_host_access R249. -/
  | rdClass
  /-- WR_CLASS, 42_host_access R250. -/
  | wrClass (data : Word)
  /-- RD_RSV15, 42_host_access R252. -/
  | rdRsv15
  /-- WR_RSV15, 42_host_access R253. -/
  | wrRsv15 (data : Word)
  /-- MODE_COLOR_AND_ALPHA, 40_classifier R135. -/
  | modeColorAndAlpha
  /-- MODE_COLOR_OR_ALPHA, 40_classifier R136. -/
  | modeColorOrAlpha
  /-- MODE_ONLY_ALPHA, 40_classifier R137. -/
  | modeOnlyAlpha
  /-- MODE_IGNORE_ALPHA, 40_classifier R138. -/
  | modeIgnoreAlpha
  /-- MODE_INVALID, 40_classifier R139. -/
  | modeInvalid (code : BitVec 3)
  deriving DecidableEq, Repr

/-- The two encoding formats of the table (30_encoding R90, R96). -/
inductive Format where
  | txn37 | mode3
  deriving DecidableEq, Repr

/-- A code word in its format: a 37-bit host transaction (30_encoding R90) or a 3-bit mode code (30_encoding R96). -/
inductive Encoded where
  | txn37 (w : BitVec 37)
  | mode3 (m : BitVec 3)
  deriving DecidableEq, Repr

end Sys2Proof
end

