-- ==== Sys2Proof/WellFormed.lean ====
section
/-! DEFINITION. Which terms of `Instr` stand for an encoding of the table. Every operand is a field of its own width,
so three checks remain: the two rows of a CTRL write are told apart by DATA[0], and an invalid mode code has bit 2 set. -/

namespace Sys2Proof

/-- The operand constraints of the table: WR_CTRL_START has DATA[0] = 1 (42_host_access R222), WR_CTRL_NOP has
DATA[0] = 0 (R223), MODE_INVALID is 0b1xx (40_classifier R139). -/
def Instr.wf : Instr → Bool
  | .wrCtrlStart data => data.getLsbD 0
  | .wrCtrlNop data => !data.getLsbD 0
  | .modeInvalid code => code.getLsbD 2
  | .rdId | .wrId _ | .rdCtrl | .rdStatus | .wrStatus _ | .rdCfg
  | .wrCfg _ | .rdCthr | .wrCthr _ | .rdAthr | .wrAthr _ | .rdWidth
  | .wrWidth _ | .rdHeight | .wrHeight _ | .rdSrcBase | .wrSrcBase _ | .rdSrcLen
  | .wrSrcLen _ | .rdDstBase | .wrDstBase _ | .rdDstLen | .wrDstLen _ | .rdBytes
  | .wrBytes _ | .rdPixel | .wrPixel _ | .rdClass | .wrClass _ | .rdRsv15
  | .wrRsv15 _ | .modeColorAndAlpha | .modeColorOrAlpha | .modeOnlyAlpha | .modeIgnoreAlpha => true

end Sys2Proof
end

