-- ==== Sys2Proof/Decode.lean ====
section
/-! DEFINITION. Decoding and encoding (30_encoding): every TXN37 word and every MODE3 code decodes (R96, R100); bytes
that form no word of either format are rejected by name; the encoder follows the same tables. -/

namespace Sys2Proof

/-! ### Fields of a TXN37 word (30_encoding R90) -/

/-- WE, bit 36. -/
def txnWe (w : BitVec 37) : Bool := w.getLsbD 36

/-- IDX, bits 35:32. -/
def txnIdx (w : BitVec 37) : BitVec 4 := w.extractLsb' 32 4

/-- DATA, bits 31:0. -/
def txnData (w : BitVec 37) : Word := w.extractLsb' 0 32

/-- The word of the three fields: `WE*2^36 + IDX*2^32 + DATA`. -/
def txnWord (we : Bool) (idx : BitVec 4) (data : Word) : BitVec 37 :=
  BitVec.ofNat 37 (we.toNat * 2 ^ 36 + idx.toNat * 2 ^ 32 + data.toNat)

/-- The register an index selects (30_encoding R94). -/
def regOfIndex (i : BitVec 4) : RegName :=
  match i.toNat with
  | 0 => .id
  | 1 => .ctrl
  | 2 => .status
  | 3 => .cfg
  | 4 => .cthr
  | 5 => .athr
  | 6 => .width
  | 7 => .height
  | 8 => .srcBase
  | 9 => .srcLen
  | 10 => .dstBase
  | 11 => .dstLen
  | 12 => .bytes
  | 13 => .pixel
  | 14 => .cls
  | _ => .rsv15

/-- The index of a register (30_encoding R94). -/
def RegName.index : RegName → BitVec 4
  | .id => 0#4
  | .ctrl => 1#4
  | .status => 2#4
  | .cfg => 3#4
  | .cthr => 4#4
  | .athr => 5#4
  | .width => 6#4
  | .height => 7#4
  | .srcBase => 8#4
  | .srcLen => 9#4
  | .dstBase => 10#4
  | .dstLen => 11#4
  | .bytes => 12#4
  | .pixel => 13#4
  | .cls => 14#4
  | .rsv15 => 15#4

/-- The host port decodes a 6-bit byte offset: `IDX = off[5:2]`, and `off[1:0]` is ignored (30_encoding R91). -/
def portIndex (off : BitVec 6) : BitVec 4 := off.extractLsb' 2 4

/-- The transaction word of a host-port access (30_encoding R90, R91). -/
def txnOfPort (we : Bool) (off : BitVec 6) (data : Word) : BitVec 37 :=
  txnWord we (portIndex off) data

/-! ### Decoding -/

/-- The transaction of a word: total, since WE, IDX and DATA have no illegal value (30_encoding R100). -/
def decodeTxn (w : BitVec 37) : Instr :=
  match txnWe w, regOfIndex (txnIdx w) with
  | false, .id => .rdId
  | true, .id => .wrId (txnData w)
  | false, .ctrl => .rdCtrl
  | true, .ctrl => if (txnData w).getLsbD 0 then .wrCtrlStart (txnData w) else .wrCtrlNop (txnData w)
  | false, .status => .rdStatus
  | true, .status => .wrStatus (txnData w)
  | false, .cfg => .rdCfg
  | true, .cfg => .wrCfg (txnData w)
  | false, .cthr => .rdCthr
  | true, .cthr => .wrCthr (txnData w)
  | false, .athr => .rdAthr
  | true, .athr => .wrAthr (txnData w)
  | false, .width => .rdWidth
  | true, .width => .wrWidth (txnData w)
  | false, .height => .rdHeight
  | true, .height => .wrHeight (txnData w)
  | false, .srcBase => .rdSrcBase
  | true, .srcBase => .wrSrcBase (txnData w)
  | false, .srcLen => .rdSrcLen
  | true, .srcLen => .wrSrcLen (txnData w)
  | false, .dstBase => .rdDstBase
  | true, .dstBase => .wrDstBase (txnData w)
  | false, .dstLen => .rdDstLen
  | true, .dstLen => .wrDstLen (txnData w)
  | false, .bytes => .rdBytes
  | true, .bytes => .wrBytes (txnData w)
  | false, .pixel => .rdPixel
  | true, .pixel => .wrPixel (txnData w)
  | false, .cls => .rdClass
  | true, .cls => .wrClass (txnData w)
  | false, .rsv15 => .rdRsv15
  | true, .rsv15 => .wrRsv15 (txnData w)

/-- The policy mode of a MODE3 code (30_encoding R96): 4..7 are invalid. -/
def modeOfCode (m : BitVec 3) : PolicyMode :=
  match m.toNat with
  | 0 => .colorAndAlpha
  | 1 => .colorOrAlpha
  | 2 => .onlyAlpha
  | 3 => .ignoreAlpha
  | _ => .invalid

/-- The instruction of a MODE3 code (30_encoding R96). -/
def decodeMode (m : BitVec 3) : Instr :=
  match modeOfCode m with
  | .colorAndAlpha => .modeColorAndAlpha
  | .colorOrAlpha => .modeColorOrAlpha
  | .onlyAlpha => .modeOnlyAlpha
  | .ignoreAlpha => .modeIgnoreAlpha
  | .invalid => .modeInvalid m

/-- The instruction of a code word. -/
def decode : Encoded → Instr
  | .txn37 w => decodeTxn w
  | .mode3 m => decodeMode m

/-- Why bytes are no code word. Safe: they are refused, and the hardware's ports cannot carry them at all. -/
inductive DecodeReject where
  /-- five bytes with a bit above bit 36 set (a TXN37 word is 37 bits wide, 30_encoding R90) -/
  | bitsAboveTxn37
  /-- one byte with a bit above bit 2 set (a MODE3 code is 3 bits wide, 30_encoding R96) -/
  | bitsAboveMode3
  /-- a number of bytes that is neither five (TXN37) nor one (MODE3) -/
  | lengthOfNoFormat
  deriving DecidableEq, Repr

/-- The code word that bytes hold, first byte least significant (log 12: the hardware stores no code word, and the
spec gives no byte layout). -/
def encodedOfBytes : List Byte → Except DecodeReject Encoded
  | [b] => if b.toNat < 8 then .ok (.mode3 (b.setWidth 3)) else .error .bitsAboveMode3
  | [b0, b1, b2, b3, b4] =>
    if b4.toNat < 32 then .ok (.txn37 ((b4 ++ (b3 ++ (b2 ++ (b1 ++ b0)))).setWidth 37)) else .error .bitsAboveTxn37
  | _ => .error .lengthOfNoFormat

/-- Decoding of any bytes, rejecting by name. -/
def decodeBytes (bytes : List Byte) : Except DecodeReject Instr :=
  match encodedOfBytes bytes with
  | .ok e => .ok (decode e)
  | .error r => .error r

/-! ### Encoding -/

/-- The canonical code word of an instruction: a read has DATA = 0 (30_encoding R90). -/
def encode : Instr → Encoded
  | .rdId => .txn37 (txnWord false (RegName.index .id) 0#32)
  | .wrId data => .txn37 (txnWord true (RegName.index .id) data)
  | .rdCtrl => .txn37 (txnWord false (RegName.index .ctrl) 0#32)
  | .wrCtrlNop data => .txn37 (txnWord true (RegName.index .ctrl) data)
  | .wrCtrlStart data => .txn37 (txnWord true (RegName.index .ctrl) data)
  | .rdStatus => .txn37 (txnWord false (RegName.index .status) 0#32)
  | .wrStatus data => .txn37 (txnWord true (RegName.index .status) data)
  | .rdCfg => .txn37 (txnWord false (RegName.index .cfg) 0#32)
  | .wrCfg data => .txn37 (txnWord true (RegName.index .cfg) data)
  | .rdCthr => .txn37 (txnWord false (RegName.index .cthr) 0#32)
  | .wrCthr data => .txn37 (txnWord true (RegName.index .cthr) data)
  | .rdAthr => .txn37 (txnWord false (RegName.index .athr) 0#32)
  | .wrAthr data => .txn37 (txnWord true (RegName.index .athr) data)
  | .rdWidth => .txn37 (txnWord false (RegName.index .width) 0#32)
  | .wrWidth data => .txn37 (txnWord true (RegName.index .width) data)
  | .rdHeight => .txn37 (txnWord false (RegName.index .height) 0#32)
  | .wrHeight data => .txn37 (txnWord true (RegName.index .height) data)
  | .rdSrcBase => .txn37 (txnWord false (RegName.index .srcBase) 0#32)
  | .wrSrcBase data => .txn37 (txnWord true (RegName.index .srcBase) data)
  | .rdSrcLen => .txn37 (txnWord false (RegName.index .srcLen) 0#32)
  | .wrSrcLen data => .txn37 (txnWord true (RegName.index .srcLen) data)
  | .rdDstBase => .txn37 (txnWord false (RegName.index .dstBase) 0#32)
  | .wrDstBase data => .txn37 (txnWord true (RegName.index .dstBase) data)
  | .rdDstLen => .txn37 (txnWord false (RegName.index .dstLen) 0#32)
  | .wrDstLen data => .txn37 (txnWord true (RegName.index .dstLen) data)
  | .rdBytes => .txn37 (txnWord false (RegName.index .bytes) 0#32)
  | .wrBytes data => .txn37 (txnWord true (RegName.index .bytes) data)
  | .rdPixel => .txn37 (txnWord false (RegName.index .pixel) 0#32)
  | .wrPixel data => .txn37 (txnWord true (RegName.index .pixel) data)
  | .rdClass => .txn37 (txnWord false (RegName.index .cls) 0#32)
  | .wrClass data => .txn37 (txnWord true (RegName.index .cls) data)
  | .rdRsv15 => .txn37 (txnWord false (RegName.index .rsv15) 0#32)
  | .wrRsv15 data => .txn37 (txnWord true (RegName.index .rsv15) data)
  | .modeColorAndAlpha => .mode3 0#3
  | .modeColorOrAlpha => .mode3 1#3
  | .modeOnlyAlpha => .mode3 2#3
  | .modeIgnoreAlpha => .mode3 3#3
  | .modeInvalid code => .mode3 code

/-! ### A row of the opcode table as a number -/

/-- The `n` low bytes of `w`, least significant first. -/
def bytesOfNat : Nat → Nat → List Byte
  | 0, _ => []
  | n + 1, w => BitVec.ofNat 8 w :: bytesOfNat n (w >>> 8)

/-- The bytes of a table row's bits: a MODE3 row has 3 bits, one byte; a TXN37 row has 37 bits, five bytes. `none`
where `w` has bits that those bytes do not hold. -/
def tableBytes (nbits w : Nat) : Option (List Byte) :=
  if nbits ≤ 8 then (if w < 2 ^ 8 then some (bytesOfNat 1 w) else none)
  else if w < 2 ^ 40 then some (bytesOfNat 5 w) else none

/-- The code word a table row's bits stand for. -/
def tableEncoded (nbits w : Nat) : Option Encoded :=
  match tableBytes nbits w with
  | none => none
  | some bytes =>
    match encodedOfBytes bytes with
    | .ok e => some e
    | .error _ => none

/-- The instruction the decoder reads from a table row's bits. -/
def decodeTableWord (nbits w : Nat) : Option Instr :=
  match tableBytes nbits w with
  | none => none
  | some bytes =>
    match decodeBytes bytes with
    | .ok i => some i
    | .error _ => none

end Sys2Proof
end

