-- ==== Sys2Proof/Machine/State.lean ====
section
/-! DEFINITION. The state of the machine, as plain data: the registers and the engine state of 10_state, the platform
memory the engine works on, the platform's parameter MEM_ADMITS, what happens next (the interleaving of the agents,
00_scope R6), and what the outside has seen. -/

namespace Sys2Proof.Machine

/-- Platform memory (20_memory R60): address and byte pairs, addresses strictly rising, no entry equal to what an
unlisted address reads as (Machine/Ops.lean: `Memory.unlisted`, `Memory.wf`). -/
abbrev Memory := List Host.Cell

/-- A range of byte addresses, `first .. first + length - 1`. -/
structure AddrRange where
  first : Nat
  length : Nat
  deriving DecidableEq, Repr

/-- The outputs of PCLS (40_classifier R130). -/
structure PclsOut where
  bit : Bool
  ok : Bool
  cbit : Bool
  abit : Bool
  deriving DecidableEq, Repr

/-- What the outside has seen: the model's record, no state of the hardware (log 3). -/
inductive Output where
  /-- the value a host read transaction returned (42_host_access R220) -/
  | hostRead (v : Word)
  /-- the output ports of the test PCLS instance for a mode code (40_classifier R130, log 4) -/
  | pclsPorts (o : PclsOut)
  /-- the byte the host's own load of platform memory returned (20_memory R72) -/
  | platformRead (v : Byte)
  deriving DecidableEq, Repr

/-- What one group step did on the memory port (20_memory R66, R70): the addresses read, the address written, and the
byte. The reads are listed in ascending order, which says nothing of the order they are performed in (log 11). -/
structure GroupAccess where
  reads : List Nat
  write : Nat
  value : Byte
  deriving DecidableEq, Repr

/-- What can happen next, one step each (00_scope R6, 70_reset R290). -/
inductive Event where
  /-- the Host performs the transaction of a TXN37 word (30_encoding R90) -/
  | txn (w : BitVec 37)
  /-- the Host accesses the host port at a 6-bit byte offset (30_encoding R91) -/
  | port (we : Bool) (off : BitVec 6) (data : Word)
  /-- a MODE3 code is driven on the test classifier's mode port (30_encoding R96, log 4) -/
  | modeCode (m : BitVec 3)
  /-- the Engine is scheduled (41_packer R184) -/
  | engine
  /-- the platform asserts reset (70_reset R290) -/
  | reset
  /-- the host loads a byte of platform memory, outside the block (20_memory R72) -/
  | load (addr : Word)
  /-- the host, or any other master, stores a byte of platform memory, outside the block (20_memory R73, R75) -/
  | store (addr : Word) (v : Byte)
  deriving DecidableEq, Repr

/-- The state. -/
structure State where
  /-- STATUS.BUSY, which is the engine's run state (10_state R23, R38) -/
  busy : Bool
  /-- STATUS.DONE (10_state R23) -/
  done : Bool
  /-- STATUS.ERR (10_state R23) -/
  err : Bool
  /-- STATUS.ERRCODE (10_state R23, 30_encoding R98) -/
  errCode : BitVec 4
  /-- CFG.MODE (10_state R25) -/
  mode : BitVec 3
  /-- CFG.CHANNELS (10_state R25) -/
  channels : BitVec 3
  /-- CTHR.LEVEL (10_state R26) -/
  cthr : BitVec 10
  /-- ATHR.LEVEL (10_state R27) -/
  athr : BitVec 8
  /-- WIDTH.W (10_state R28) -/
  width : BitVec 16
  /-- HEIGHT.H (10_state R29) -/
  height : BitVec 16
  /-- SRC_BASE (10_state R30) -/
  srcBase : Word
  /-- SRC_LEN (10_state R31) -/
  srcLen : Word
  /-- DST_BASE (10_state R32) -/
  dstBase : Word
  /-- DST_LEN (10_state R33) -/
  dstLen : Word
  /-- PIXEL (10_state R35): no bit is reserved, so the word is held whole -/
  pixel : Word
  /-- the cursor's row (10_state R39) -/
  curY : BitVec 16
  /-- the cursor's column (10_state R39) -/
  curXg : BitVec 16
  /-- platform memory (20_memory R60) -/
  mem : Memory
  /-- MEM_ADMITS as the ranges it admits (00_scope R5, 20_memory R80): no step changes it (log 6) -/
  admits : List AddrRange
  /-- the model's: platform memory at the last accepted START (20_memory R72, R75; log 18) -/
  startMem : Memory
  /-- the model's: what the memory port did, newest first (log 11) -/
  traffic : List GroupAccess
  /-- the model's: how many racing reads there were, so that each takes a fresh free value (20_memory R72, log 10) -/
  raceCount : Nat
  /-- the model's: what the outside has seen, newest first (log 3) -/
  observed : List Output
  /-- the model's: what happens next, oldest first (00_scope R6, log 1) -/
  pending : List Event
  /-- the model's: the schedule after the events of `pending`, weakly fair to the Engine or not: whether the Engine then
  has every turn or none (70_reset R299, log 2). No step changes it -/
  fair : Bool
  deriving DecidableEq, Repr

/-- The machine stops with a fault. -/
inductive Fault where
  /-- Raised by the engine's group step where an address it computes is 2^32 or more. Safe: the START checks exclude it
  (20_memory R69, 41_packer R181, R182), so no run from reset reaches it (log 13). -/
  | addressOutsideSpace
  deriving DecidableEq, Repr

/-- The model gives the situation no meaning. -/
inductive Refusal where
  /-- Raised by an arm of `exec` whose instruction has no meaning yet; no arm of this model does. Safe. -/
  | notModelled (mnemonic : String)
  /-- Raised by a store into the SRC or DST region while BUSY = 1: "has no meaning in this spec, and the model refuses
  the run" (20_memory R73, log 9). Safe. -/
  | storeToBusyRegion
  /-- Raised by a group step, or a racing load, of a conversion whose regions overlap: "the model refuses it"
  (20_memory R74, log 8). Safe. -/
  | overlappingRegions
  deriving DecidableEq, Repr

/-- What a step answers. -/
abbrev Result := Host.Outcome State Fault Refusal

/-- Right after reset (10_state R42, 70_reset R290). The platform's fields and the model's own stand at the values of
logs 1, 2, 3, 5, 6, 10, 11 and 18. -/
def State.reset : State where
  busy := false
  done := false
  err := false
  errCode := 0#4
  mode := 1#3
  channels := 4#3
  cthr := 229#10
  athr := 51#8
  width := 0#16
  height := 0#16
  srcBase := 0#32
  srcLen := 0#32
  dstBase := 0#32
  dstLen := 0#32
  pixel := 0#32
  curY := 0#16
  curXg := 0#16
  mem := []
  admits := [⟨0, Config.addressSpaceSize⟩]
  startMem := []
  traffic := []
  raceCount := 0
  observed := []
  pending := []
  fair := true

end Sys2Proof.Machine
end

