-- ==== Sys2Proof/Machine/Operands.lean ====
section
/-! DEFINITION. Operand forms: the fields a write takes from DATA, the channels of PIXEL, and the operands the engine
takes from the registers (41_packer: W, H, n). -/

namespace Sys2Proof.Machine

/-! ### Fields of a write's DATA (42_host_access) -/

/-- The mode of a CFG write, DATA[2:0] (R228). -/
def dataMode (data : Word) : BitVec 3 := data.extractLsb' 0 3

/-- The channel count of a CFG write, DATA[10:8] (R228). -/
def dataChannels (data : Word) : BitVec 3 := data.extractLsb' 8 3

/-- The level of a CTHR write, DATA[9:0] (R230). -/
def dataCthr (data : Word) : BitVec 10 := data.extractLsb' 0 10

/-- The level of an ATHR write, DATA[7:0] (R232). -/
def dataAthr (data : Word) : BitVec 8 := data.extractLsb' 0 8

/-- The dimension of a WIDTH or HEIGHT write, DATA[15:0] (R234, R236). -/
def dataDim (data : Word) : BitVec 16 := data.extractLsb' 0 16

/-! ### Channels of PIXEL (30_encoding R95: PIXEL = A, B, G, R from the top byte down) -/

/-- PIXEL.R, bits 7:0. -/
def pixelR (p : Word) : Byte := p.extractLsb' 0 8

/-- PIXEL.G, bits 15:8. -/
def pixelG (p : Word) : Byte := p.extractLsb' 8 8

/-- PIXEL.B, bits 23:16. -/
def pixelB (p : Word) : Byte := p.extractLsb' 16 8

/-- PIXEL.A, bits 31:24. -/
def pixelA (p : Word) : Byte := p.extractLsb' 24 8

/-! ### Operands of the engine, as unbounded naturals (00_scope R7, 41_packer) -/

/-- W = WIDTH.W. -/
def State.w (s : State) : Nat := s.width.toNat

/-- H = HEIGHT.H. -/
def State.h (s : State) : Nat := s.height.toNat

/-- n = CFG.CHANNELS. -/
def State.n (s : State) : Nat := s.channels.toNat

/-- The row of the cursor (10_state R39). -/
def State.y (s : State) : Nat := s.curY.toNat

/-- The column of the cursor (10_state R39). -/
def State.xg (s : State) : Nat := s.curXg.toNat

/-- `srcbytes = W * H * n`, at full precision (41_packer R172). -/
def State.srcBytes (s : State) : Nat := s.w * s.h * s.n

/-- `dstbytes = (W / 8) * H`, which is also the number of groups (41_packer R172, R188). -/
def State.dstBytes (s : State) : Nat := s.w / 8 * s.h

/-- Byte address `a` is in the SRC region (00_scope glossary). -/
def State.inSrc (s : State) (a : Nat) : Bool :=
  decide (s.srcBase.toNat ≤ a) && decide (a < s.srcBase.toNat + s.srcBytes)

/-- Byte address `a` is in the DST region (00_scope glossary). -/
def State.inDst (s : State) (a : Nat) : Bool :=
  decide (s.dstBase.toNat ≤ a) && decide (a < s.dstBase.toNat + s.dstBytes)

/-- The SRC region and the DST region share a byte (20_memory R74). -/
def State.regionsOverlap (s : State) : Bool :=
  decide (s.srcBase.toNat < s.dstBase.toNat + s.dstBytes) &&
    decide (s.dstBase.toNat < s.srcBase.toNat + s.srcBytes) &&
    decide (0 < s.srcBytes) && decide (0 < s.dstBytes)

/-- MEM_ADMITS of a byte address (00_scope R5, 20_memory R80). -/
def State.admitted (s : State) (a : Nat) : Bool :=
  s.admits.any fun r => decide (r.first ≤ a) && decide (a < r.first + r.length)

end Sys2Proof.Machine
end

