-- ==== Sys2Proof/Machine/Pcls.lean ====
section
/-! DEFINITION. PCLS, the pixel classifier (40_classifier): a pure function of its inputs (R141), total (R140). -/

namespace Sys2Proof.Machine

/-- `sum = zext_10(r) + zext_10(g) + zext_10(b)`, which never overflows 10 bits (40_classifier R132). -/
def colorSum (r g b : Byte) : BitVec 10 :=
  r.setWidth 10 + g.setWidth 10 + b.setWidth 10

/-- The color sub-decision: `sum > cthr`, unsigned and strict (40_classifier R132). -/
def colorBit (r g b : Byte) (cthr : BitVec 10) : Bool :=
  cthr.ult (colorSum r g b)

/-- The alpha sub-decision: `a > athr`, unsigned and strict (40_classifier R133). -/
def alphaBit (a : Byte) (athr : BitVec 8) : Bool :=
  athr.ult a

/-- The mode uses the alpha sub-decision (40_classifier R134). -/
def modeUsesAlpha : PolicyMode → Bool
  | .colorAndAlpha => true
  | .colorOrAlpha => true
  | .onlyAlpha => true
  | .ignoreAlpha => false
  | .invalid => false

/-- Legality `ok`: the mode is in the closed set, the count is 3 or 4, and a mode that uses alpha has count 4
(40_classifier R134). -/
def pairLegal (m : PolicyMode) (n : BitVec 3) : Bool :=
  decide (m ≠ .invalid) && (n == 3#3 || n == 4#3) && (!modeUsesAlpha m || n == 4#3)

/-- The decision of a legal mode from the two sub-decisions (40_classifier R135 to R138); an invalid mode gives 0
(R139). -/
def modeDecision (m : PolicyMode) (cbit abit : Bool) : Bool :=
  match m with
  | .colorAndAlpha => cbit && abit
  | .colorOrAlpha => cbit || abit
  | .onlyAlpha => abit
  | .ignoreAlpha => cbit
  | .invalid => false

/-- PCLS for a decoded mode. -/
def classify (r g b a : Byte) (n : BitVec 3) (m : PolicyMode) (cthr : BitVec 10) (athr : BitVec 8) : PclsOut :=
  let cbit := colorBit r g b cthr
  let abit := alphaBit a athr
  let ok := pairLegal m n
  { bit := ok && modeDecision m cbit abit, ok := ok, cbit := cbit, abit := abit }

/-- The PCLS function (40_classifier R140), with its mode port in the MODE3 encoding. -/
def pcls (r g b a : Byte) (n mode : BitVec 3) (cthr : BitVec 10) (athr : BitVec 8) : PclsOut :=
  classify r g b a n (modeOfCode mode) cthr athr

/-- The test instance behind PIXEL and CLASS (10_state R36), with mode `m` on its mode port. -/
def testPcls (s : State) (m : PolicyMode) : PclsOut :=
  classify (pixelR s.pixel) (pixelG s.pixel) (pixelB s.pixel) (pixelA s.pixel) s.channels m s.cthr s.athr

end Sys2Proof.Machine
end

