-- ==== Sys2Proof/Machine/Flags.lean ====
section
/-! DEFINITION. The words a host read returns, field by field (30_encoding R92, R95), the combinational registers
BYTES and CLASS, and the causes and codes of a precondition violation (30_encoding R98). -/

namespace Sys2Proof.Machine

/-! ### Precondition violations -/

/-- The causes, in check order (30_encoding R98, 60_exceptions R261). -/
inductive Violation where
  | dimZero | widthAlign | heightAlign | mode | channels | modeChannels | srcSize | dstSize | srcRange | dstRange
  deriving DecidableEq, Repr

/-- STATUS.ERRCODE of a cause (30_encoding R98). Codes 11 to 15 are never produced. -/
def violationCode : Violation → BitVec 4
  | .dimZero => 1#4
  | .widthAlign => 2#4
  | .heightAlign => 3#4
  | .mode => 4#4
  | .channels => 5#4
  | .modeChannels => 6#4
  | .srcSize => 7#4
  | .dstSize => 8#4
  | .srcRange => 9#4
  | .dstRange => 10#4

/-- The first check that fails, in order; `none` where all pass (41_packer R172 to R182). The arithmetic is exact. -/
def firstViolation (s : State) : Option Violation :=
  if s.w = 0 ∨ s.h = 0 then some .dimZero
  else if s.w % 8 ≠ 0 then some .widthAlign
  else if s.h % 8 ≠ 0 then some .heightAlign
  else if 3 < s.mode.toNat then some .mode
  else if s.n ≠ 3 ∧ s.n ≠ 4 then some .channels
  else if s.mode.toNat ≠ 3 ∧ s.n ≠ 4 then some .modeChannels
  else if s.srcLen.toNat < s.srcBytes then some .srcSize
  else if s.dstLen.toNat < s.dstBytes then some .dstSize
  else if Config.addressSpaceSize < s.srcBase.toNat + s.srcBytes then some .srcRange
  else if Config.addressSpaceSize < s.dstBase.toNat + s.dstBytes then some .dstRange
  else none

/-! ### Register words (30_encoding R95) -/

/-- ID, a constant: the ASCII bytes of XBM1 (10_state R21). -/
def idWord : Word := 0x58424D31#32

/-- STATUS (30_encoding R95): ERRCODE in 11:8, ERR, DONE, BUSY in 2:0, zeros elsewhere. -/
def statusWord (s : State) : Word :=
  0#20 ++ (s.errCode ++ (0#5 ++ (BitVec.ofBool s.err ++ (BitVec.ofBool s.done ++ BitVec.ofBool s.busy))))

/-- CFG (30_encoding R95): CHANNELS in 10:8, MODE in 2:0, zeros elsewhere. -/
def cfgWord (s : State) : Word :=
  0#21 ++ (s.channels ++ (0#5 ++ s.mode))

/-- The dimensions meet their preconditions (41_packer R190). -/
def dimsValid (w h : BitVec 16) : Bool :=
  decide (0 < w.toNat) && decide (0 < h.toNat) && decide (w.toNat % 8 = 0) && decide (h.toNat % 8 = 0)

/-- BYTES, the byte-count query (41_packer R190): VALID in 31, COUNT in 28:0. -/
def bytesWord (w h : BitVec 16) : Word :=
  if dimsValid w h then 1#1 ++ (0#2 ++ BitVec.ofNat 29 (w.toNat / 8 * h.toNat)) else 0#32

/-- CLASS as a word of PCLS outputs (30_encoding R95): ABIT, CBIT, OK, BIT in 3:0, zeros elsewhere. -/
def classWord (o : PclsOut) : Word :=
  0#28 ++ (BitVec.ofBool o.abit ++ (BitVec.ofBool o.cbit ++ (BitVec.ofBool o.ok ++ BitVec.ofBool o.bit)))

/-- `reg(NAME)`, the value a host read returns (30_encoding R92, R94). It has no effect on any state. -/
def readReg (r : RegName) (s : State) : Word :=
  match r with
  | .id => idWord
  | .ctrl => 0#32
  | .status => statusWord s
  | .cfg => cfgWord s
  | .cthr => s.cthr.setWidth 32
  | .athr => s.athr.setWidth 32
  | .width => s.width.setWidth 32
  | .height => s.height.setWidth 32
  | .srcBase => s.srcBase
  | .srcLen => s.srcLen
  | .dstBase => s.dstBase
  | .dstLen => s.dstLen
  | .bytes => bytesWord s.width s.height
  | .pixel => s.pixel
  | .cls => classWord (testPcls s (modeOfCode s.mode))
  | .rsv15 => 0#32

end Sys2Proof.Machine
end

