-- ==== Sys2Proof/Machine/Ops.lean ====
section
/-! DEFINITION. The named operations: over memory, over the registers, and taking and clearing the one exception
(60_exceptions R260). -/

namespace Sys2Proof.Machine

/-! ### Memory (20_memory R60): one byte at each of 2^32 addresses -/

/-- What an unlisted address reads as (DESIGN CHOICE, unsafe: log 5). -/
def Memory.unlisted : Byte := 0#8

/-- `MemRead(a, 1)` (00_scope R8). -/
def Memory.read : Memory → Nat → Byte
  | [], _ => Memory.unlisted
  | (b, v) :: m, a => if a = b then v else Memory.read m a

/-- `MemWrite(a, 1, v)` (00_scope R8), keeping the canonical form. -/
def Memory.write : Memory → Nat → Byte → Memory
  | [], a, v => if v = Memory.unlisted then [] else [(a, v)]
  | (b, u) :: m, a, v =>
    if a < b then (if v = Memory.unlisted then (b, u) :: m else (a, v) :: (b, u) :: m)
    else if a = b then (if v = Memory.unlisted then m else (a, v) :: m)
    else (b, u) :: Memory.write m a v

/-- Every listed address is at least `lo`, below 2^32, strictly rising, and no entry equals what an unlisted address
reads as. -/
def Memory.wfFrom : Nat → Memory → Bool
  | _, [] => true
  | lo, (a, v) :: m =>
    decide (lo ≤ a) && decide (a < Config.addressSpaceSize) && decide (v ≠ Memory.unlisted) && Memory.wfFrom (a + 1) m

/-- The canonical form. -/
def Memory.wf (m : Memory) : Bool := Memory.wfFrom 0 m

/-! ### What happens next, and what the outside sees -/

/-- The events still to come, once the next one is taken (log 1); nothing else changes. -/
def State.withPending (s : State) (rest : List Event) : State := { s with pending := rest }

/-- An output is shown; nothing else changes. -/
def State.observe (s : State) (o : Output) : State := { s with observed := o :: s.observed }

/-- A read transaction returns a value and changes no state (42_host_access R220). -/
def hostRead (v : Word) (s : State) : Result := .next (s.observe (.hostRead v))

/-! ### Writes to registers: reserved bits of DATA are discarded (30_encoding R93) -/

/-- A write to an RW-F register: while BUSY = 1 it changes nothing (10_state R38, 30_encoding R93). -/
def unlessBusy (f : State → State) (s : State) : State := if s.busy then s else f s

/-- MODE and CHANNELS take their fields of DATA (42_host_access R228). -/
def State.setCfg (s : State) (data : Word) : State :=
  { s with mode := dataMode data, channels := dataChannels data }

/-- CTHR.LEVEL takes DATA[9:0] (42_host_access R230). -/
def State.setCthr (s : State) (data : Word) : State := { s with cthr := dataCthr data }

/-- ATHR.LEVEL takes DATA[7:0] (42_host_access R232). -/
def State.setAthr (s : State) (data : Word) : State := { s with athr := dataAthr data }

/-- WIDTH.W takes DATA[15:0] (42_host_access R234). -/
def State.setWidth (s : State) (data : Word) : State := { s with width := dataDim data }

/-- HEIGHT.H takes DATA[15:0] (42_host_access R236). -/
def State.setHeight (s : State) (data : Word) : State := { s with height := dataDim data }

/-- SRC_BASE takes DATA (42_host_access R238). -/
def State.setSrcBase (s : State) (data : Word) : State := { s with srcBase := data }

/-- SRC_LEN takes DATA (42_host_access R240). -/
def State.setSrcLen (s : State) (data : Word) : State := { s with srcLen := data }

/-- DST_BASE takes DATA (42_host_access R242). -/
def State.setDstBase (s : State) (data : Word) : State := { s with dstBase := data }

/-- DST_LEN takes DATA (42_host_access R244). -/
def State.setDstLen (s : State) (data : Word) : State := { s with dstLen := data }

/-- PIXEL takes DATA (42_host_access R248). -/
def State.setPixel (s : State) (data : Word) : State := { s with pixel := data }

/-! ### The exception: PreconditionViolation (60_exceptions) -/

/-- A START that finds BUSY = 0 clears the report of the one before it: the only way out of a report but reset
(41_packer R172, 60_exceptions R264). There is no return instruction. -/
def State.clearReport (s : State) : State := { s with done := false, err := false, errCode := 0#4 }

/-- `raise PreconditionViolation(code)` (60_exceptions R262): DONE and ERR are set and ERRCODE takes the code; BUSY,
the registers, the cursor and memory stay as they are; control goes nowhere. -/
def State.raiseViolation (s : State) (v : Violation) : State :=
  { s with done := true, err := true, errCode := violationCode v }

/-- Accept (41_packer R183): BUSY is set and the cursor goes to (0, 0). The memory at this point is the source of the
conversion (20_memory R75), and what a racing read may still see (R72). -/
def State.acceptStart (s : State) : State :=
  { s with busy := true, curY := 0#16, curXg := 0#16, startMem := s.mem }

/-- START with BUSY = 0, in one step and with no memory access (41_packer R172). -/
def State.startChecked (s : State) : State :=
  match firstViolation s with
  | some v => s.clearReport.raiseViolation v
  | none => s.clearReport.acceptStart

/-! ### Reset (70_reset R290) -/

/-- Every register and every piece of engine state takes its value of 10_state R42. Memory is neither read nor
written, and the platform's parameter and the model's own records stay (log 23). -/
def State.resetBlock (s : State) : State :=
  { s with
    busy := false, done := false, err := false, errCode := 0#4, mode := 1#3, channels := 4#3, cthr := 229#10,
    athr := 51#8, width := 0#16, height := 0#16, srcBase := 0#32, srcLen := 0#32, dstBase := 0#32, dstLen := 0#32,
    pixel := 0#32, curY := 0#16, curXg := 0#16 }

end Sys2Proof.Machine
end

