-- ==== Sys2Proof/Machine/HostRead.lean ====
section
/-! DEFINITION. The read transactions (42_host_access): each returns `reg(NAME)` and changes no state (R220). -/

namespace Sys2Proof.Machine

/-- RD_ID (42_host_access R221). It returns the constant. -/
def execRdId (s : State) : Result := hostRead (readReg .id s) s

/-- RD_CTRL (42_host_access R224). It returns 0, during a conversion too: START is a trigger and holds nothing. -/
def execRdCtrl (s : State) : Result := hostRead (readReg .ctrl s) s

/-- RD_STATUS (42_host_access R225). It returns ERRCODE, ERR, DONE and BUSY, and clears none of them. -/
def execRdStatus (s : State) : Result := hostRead (readReg .status s) s

/-- RD_CFG (42_host_access R227). It returns CHANNELS and MODE as they were written, legal or not. -/
def execRdCfg (s : State) : Result := hostRead (readReg .cfg s) s

/-- RD_CTHR (42_host_access R229). It returns the level, zero-extended. -/
def execRdCthr (s : State) : Result := hostRead (readReg .cthr s) s

/-- RD_ATHR (42_host_access R231). It returns the level, zero-extended. -/
def execRdAthr (s : State) : Result := hostRead (readReg .athr s) s

/-- RD_WIDTH (42_host_access R233). It returns W, zero-extended. -/
def execRdWidth (s : State) : Result := hostRead (readReg .width s) s

/-- RD_HEIGHT (42_host_access R235). It returns H, zero-extended. -/
def execRdHeight (s : State) : Result := hostRead (readReg .height s) s

/-- RD_SRC_BASE (42_host_access R237). It returns the address. -/
def execRdSrcBase (s : State) : Result := hostRead (readReg .srcBase s) s

/-- RD_SRC_LEN (42_host_access R239). It returns the length. -/
def execRdSrcLen (s : State) : Result := hostRead (readReg .srcLen s) s

/-- RD_DST_BASE (42_host_access R241). It returns the address. -/
def execRdDstBase (s : State) : Result := hostRead (readReg .dstBase s) s

/-- RD_DST_LEN (42_host_access R243). It returns the length. -/
def execRdDstLen (s : State) : Result := hostRead (readReg .dstLen s) s

/-- RD_BYTES (42_host_access R245). It returns the byte count of the current dimensions, or 0 (41_packer R190). -/
def execRdBytes (s : State) : Result := hostRead (readReg .bytes s) s

/-- RD_PIXEL (42_host_access R247). It returns the pixel sample. -/
def execRdPixel (s : State) : Result := hostRead (readReg .pixel s) s

/-- RD_CLASS (42_host_access R249). It returns the test classifier's outputs under the current CFG, CTHR and ATHR (10_state R36). -/
def execRdClass (s : State) : Result := hostRead (readReg .cls s) s

/-- RD_RSV15 (42_host_access R252). It returns 0. -/
def execRdRsv15 (s : State) : Result := hostRead (readReg .rsv15 s) s

end Sys2Proof.Machine
end

