-- ==== Sys2Proof/Machine/HostWrite.lean ====
section
/-! DEFINITION. The write transactions (42_host_access). A write to an RO register, to the reserved index, or to CTRL
with bit 0 clear has no effect, and nothing reports it (30_encoding R93): that is its meaning. -/

namespace Sys2Proof.Machine

/-- WR_ID (42_host_access R251). No effect: DATA is ignored. -/
def execWrId (_data : Word) (s : State) : Result := .next s

/-- WR_CTRL_NOP (42_host_access R223). No effect; it does not clear DONE or ERR. -/
def execWrCtrlNop (_data : Word) (s : State) : Result := .next s

/-- WR_CTRL_START (42_host_access R222). With BUSY = 1 the START is dropped without report (41_packer R171); with BUSY = 0 it is
checked, and reports or is accepted (41_packer R172). DATA[31:1] are ignored. -/
def execWrCtrlStart (_data : Word) (s : State) : Result := .next (unlessBusy State.startChecked s)

/-- WR_STATUS (42_host_access R226). No effect: DATA is ignored. -/
def execWrStatus (_data : Word) (s : State) : Result := .next s

/-- WR_CFG (42_host_access R228). MODE takes DATA[2:0] and CHANNELS takes DATA[10:8], any value, unless BUSY = 1. -/
def execWrCfg (data : Word) (s : State) : Result := .next (unlessBusy (fun u => u.setCfg data) s)

/-- WR_CTHR (42_host_access R230). LEVEL takes DATA[9:0], any value, unless BUSY = 1. -/
def execWrCthr (data : Word) (s : State) : Result := .next (unlessBusy (fun u => u.setCthr data) s)

/-- WR_ATHR (42_host_access R232). LEVEL takes DATA[7:0], any value, unless BUSY = 1. -/
def execWrAthr (data : Word) (s : State) : Result := .next (unlessBusy (fun u => u.setAthr data) s)

/-- WR_WIDTH (42_host_access R234). W takes DATA[15:0], any value, unless BUSY = 1. -/
def execWrWidth (data : Word) (s : State) : Result := .next (unlessBusy (fun u => u.setWidth data) s)

/-- WR_HEIGHT (42_host_access R236). H takes DATA[15:0], any value, unless BUSY = 1. -/
def execWrHeight (data : Word) (s : State) : Result := .next (unlessBusy (fun u => u.setHeight data) s)

/-- WR_SRC_BASE (42_host_access R238). The address takes DATA, any value, unless BUSY = 1. -/
def execWrSrcBase (data : Word) (s : State) : Result := .next (unlessBusy (fun u => u.setSrcBase data) s)

/-- WR_SRC_LEN (42_host_access R240). The length takes DATA, any value, unless BUSY = 1. -/
def execWrSrcLen (data : Word) (s : State) : Result := .next (unlessBusy (fun u => u.setSrcLen data) s)

/-- WR_DST_BASE (42_host_access R242). The address takes DATA, any value, unless BUSY = 1. -/
def execWrDstBase (data : Word) (s : State) : Result := .next (unlessBusy (fun u => u.setDstBase data) s)

/-- WR_DST_LEN (42_host_access R244). The length takes DATA, any value, unless BUSY = 1. -/
def execWrDstLen (data : Word) (s : State) : Result := .next (unlessBusy (fun u => u.setDstLen data) s)

/-- WR_BYTES (42_host_access R246). No effect: DATA is ignored. -/
def execWrBytes (_data : Word) (s : State) : Result := .next s

/-- WR_PIXEL (42_host_access R248). PIXEL takes DATA; it is not frozen while BUSY = 1. -/
def execWrPixel (data : Word) (s : State) : Result := .next (s.setPixel data)

/-- WR_CLASS (42_host_access R250). No effect: DATA is ignored. -/
def execWrClass (_data : Word) (s : State) : Result := .next s

/-- WR_RSV15 (42_host_access R253). No effect: DATA is ignored. -/
def execWrRsv15 (_data : Word) (s : State) : Result := .next s

end Sys2Proof.Machine
end

