-- ==== Sys2Proof/Machine/ModeCodes.lean ====
section
/-! DEFINITION. The MODE3 codes as steps (30_encoding R96, 40_classifier R135 to R139): the code is on the mode port of
the test PCLS instance, whose other inputs are PIXEL, CFG.CHANNELS, CTHR and ATHR (10_state R36), and its output ports
show the result (log 4). PCLS has no state (R141): nothing else changes, and CFG.MODE is not written. -/

namespace Sys2Proof.Machine

/-- The test instance's outputs with a mode on its mode port. -/
def driveMode (m : PolicyMode) (s : State) : Result := .next (s.observe (.pclsPorts (testPcls s m)))

/-- MODE_COLOR_AND_ALPHA (40_classifier R135): `bit = ok ? (cbit AND abit) : 0`. -/
def execModeColorAndAlpha (s : State) : Result := driveMode .colorAndAlpha s

/-- MODE_COLOR_OR_ALPHA (40_classifier R136): `bit = ok ? (cbit OR abit) : 0`. -/
def execModeColorOrAlpha (s : State) : Result := driveMode .colorOrAlpha s

/-- MODE_ONLY_ALPHA (40_classifier R137): `bit = ok ? abit : 0`. -/
def execModeOnlyAlpha (s : State) : Result := driveMode .onlyAlpha s

/-- MODE_IGNORE_ALPHA (40_classifier R138): `bit = ok ? cbit : 0`. -/
def execModeIgnoreAlpha (s : State) : Result := driveMode .ignoreAlpha s

/-- MODE_INVALID, codes 4..7 (40_classifier R139): `ok = 0` and `bit = 0` for every input. -/
def execModeInvalid (_code : BitVec 3) (s : State) : Result := driveMode .invalid s

end Sys2Proof.Machine
end

