-- ==== Sys2Proof/Machine/Dispatch.lean ====
section
/-! DEFINITION. One arm per constructor of `Instr`: one direct call of its meaning. -/

namespace Sys2Proof.Machine

def exec (i : Instr) (s : State) : Host.Outcome State Fault Refusal :=
  match i with
  | .rdId => Sys2Proof.Machine.execRdId s
  | .wrId data => Sys2Proof.Machine.execWrId data s
  | .rdCtrl => Sys2Proof.Machine.execRdCtrl s
  | .wrCtrlNop data => Sys2Proof.Machine.execWrCtrlNop data s
  | .wrCtrlStart data => Sys2Proof.Machine.execWrCtrlStart data s
  | .rdStatus => Sys2Proof.Machine.execRdStatus s
  | .wrStatus data => Sys2Proof.Machine.execWrStatus data s
  | .rdCfg => Sys2Proof.Machine.execRdCfg s
  | .wrCfg data => Sys2Proof.Machine.execWrCfg data s
  | .rdCthr => Sys2Proof.Machine.execRdCthr s
  | .wrCthr data => Sys2Proof.Machine.execWrCthr data s
  | .rdAthr => Sys2Proof.Machine.execRdAthr s
  | .wrAthr data => Sys2Proof.Machine.execWrAthr data s
  | .rdWidth => Sys2Proof.Machine.execRdWidth s
  | .wrWidth data => Sys2Proof.Machine.execWrWidth data s
  | .rdHeight => Sys2Proof.Machine.execRdHeight s
  | .wrHeight data => Sys2Proof.Machine.execWrHeight data s
  | .rdSrcBase => Sys2Proof.Machine.execRdSrcBase s
  | .wrSrcBase data => Sys2Proof.Machine.execWrSrcBase data s
  | .rdSrcLen => Sys2Proof.Machine.execRdSrcLen s
  | .wrSrcLen data => Sys2Proof.Machine.execWrSrcLen data s
  | .rdDstBase => Sys2Proof.Machine.execRdDstBase s
  | .wrDstBase data => Sys2Proof.Machine.execWrDstBase data s
  | .rdDstLen => Sys2Proof.Machine.execRdDstLen s
  | .wrDstLen data => Sys2Proof.Machine.execWrDstLen data s
  | .rdBytes => Sys2Proof.Machine.execRdBytes s
  | .wrBytes data => Sys2Proof.Machine.execWrBytes data s
  | .rdPixel => Sys2Proof.Machine.execRdPixel s
  | .wrPixel data => Sys2Proof.Machine.execWrPixel data s
  | .rdClass => Sys2Proof.Machine.execRdClass s
  | .wrClass data => Sys2Proof.Machine.execWrClass data s
  | .rdRsv15 => Sys2Proof.Machine.execRdRsv15 s
  | .wrRsv15 data => Sys2Proof.Machine.execWrRsv15 data s
  | .modeColorAndAlpha => Sys2Proof.Machine.execModeColorAndAlpha s
  | .modeColorOrAlpha => Sys2Proof.Machine.execModeColorOrAlpha s
  | .modeOnlyAlpha => Sys2Proof.Machine.execModeOnlyAlpha s
  | .modeIgnoreAlpha => Sys2Proof.Machine.execModeIgnoreAlpha s
  | .modeInvalid code => Sys2Proof.Machine.execModeInvalid code s

end Sys2Proof.Machine
end

