-- ==== Sys2Proof/Machine/Fetch.lean ====
section
/-! DEFINITION. How a code word comes to be performed: it is the next thing that happens (log 1). -/

namespace Sys2Proof.Machine

/-- The event in which a code word is performed: the Host's transaction, or a code on the mode port. -/
def eventOf : Encoded → Event
  | .txn37 w => .txn w
  | .mode3 m => .modeCode m

/-- A code word placed as the next event. -/
def State.present (s : State) (e : Encoded) : State := { s with pending := eventOf e :: s.pending }

/-- The code word of a table row's bits placed as the next event; bits that are no code word place nothing (no port
of the hardware can carry them). -/
def State.presentTableWord (s : State) (nbits w : Nat) : State :=
  match tableEncoded nbits w with
  | some e => s.present e
  | none => s

end Sys2Proof.Machine
end

