-- ==== Sys2Proof/Machine/Engine.lean ====
section
/-! DEFINITION. The packer engine: the group step, its cursor, and completion (41_packer R184 to R189). It has no
encoding (30_encoding R102). -/

namespace Sys2Proof.Machine

/-! ### Fetching pixels -/

/-- The address of channel 0 of pixel (x, y): `SRC_BASE + (y*W + x)*n` (20_memory R62, 41_packer R185). -/
def pixelAddr (s : State) (x y : Nat) : Nat := s.srcBase.toNat + (y * s.w + x) * s.n

/-- The addresses FetchPixel reads: R, G, B, and A when n = 4, under every mode (41_packer R185, 20_memory R67). -/
def pixelReads (s : State) (x y : Nat) : List Nat :=
  let p := pixelAddr s x y
  if s.n = 4 then [p, p + 1, p + 2, p + 3] else [p, p + 1, p + 2]

/-- The bit of pixel (x, y) of the source image that memory `m` holds: FetchPixel, then the engine's PCLS, which gets
`a = 0` when n is not 4 (41_packer R184, R185). -/
def pixelBit (s : State) (m : Memory) (x y : Nat) : Bool :=
  let p := pixelAddr s x y
  let a := if s.n = 4 then m.read (p + 3) else 0#8
  (pcls (m.read p) (m.read (p + 1)) (m.read (p + 2)) a s.channels s.mode s.cthr s.athr).bit

/-! ### One group -/

/-- Bit `pos` of a byte set to `b`, the other bits 0: `b << pos`. -/
def bitAt (b : Bool) (pos : Nat) : Byte := (BitVec.ofBool b).setWidth 8 <<< pos

/-- The byte of a group: pixel `xg + pos` of row `y` goes to bit `pos` (41_packer R187). -/
def groupByte (s : State) (m : Memory) (xg y : Nat) : Byte :=
  (List.range 8).foldl (fun byte pos => byte ||| bitAt (pixelBit s m (xg + pos) y) pos) 0#8

/-- The addresses a group step reads: `8 * n` source bytes (20_memory R70). -/
def groupReads (s : State) (xg y : Nat) : List Nat :=
  (List.range 8).flatMap fun pos => pixelReads s (xg + pos) y

/-- The address a group step writes: `DST_BASE + y*(W/8) + xg/8` (41_packer R186). -/
def groupWrite (s : State) (xg y : Nat) : Nat := s.dstBase.toNat + (y * (s.w / 8) + xg / 8)

/-- Every address the next group step would access. -/
def State.stepAccesses (s : State) : List Nat := groupReads s s.xg s.y ++ [groupWrite s s.xg s.y]

/-- The final value of byte `k` of the packed bitmap (20_memory R63, R72): the group at row `k / (W/8)` and column
`8 * (k % (W/8))`, of the source as it stood at the accepted START (R75). -/
def finalByte (s : State) (k : Nat) : Byte :=
  groupByte s s.startMem (8 * (k % (s.w / 8))) (k / (s.w / 8))

/-- The group's reads and its one write (41_packer R184, R186). -/
def State.packGroup (s : State) : State :=
  let byte := groupByte s s.mem s.xg s.y
  let a := groupWrite s s.xg s.y
  { s with mem := s.mem.write a byte, traffic := ⟨groupReads s s.xg s.y, a, byte⟩ :: s.traffic }

/-- The cursor moves to the next group in row-major order (41_packer R188). -/
def State.advance (s : State) : State :=
  if s.xg + 8 < s.w then { s with curXg := BitVec.ofNat 16 (s.xg + 8) }
  else { s with curXg := 0#16, curY := BitVec.ofNat 16 (s.y + 1) }

/-- The cursor stands at the last group: `y == H - 1` and `xg + 8 == W` (41_packer R188). -/
def State.atLastGroup (s : State) : Bool := decide (s.y + 1 = s.h) && decide (s.xg + 8 = s.w)

/-- Completion: BUSY is cleared and DONE set; ERR and ERRCODE stay (41_packer R189). -/
def State.complete (s : State) : State := { s with busy := false, done := true }

/-- The group step (41_packer R184): pack, advance, and complete on the last group. -/
def State.groupStep (s : State) : State :=
  if s.atLastGroup then s.packGroup.advance.complete else s.packGroup.advance

/-- The Engine's turn (00_scope R6). With BUSY = 0 it has no enabled step (60_exceptions R273), and with an address not
admitted it is stuck, neither a fault nor a value (20_memory R80, log 7): nothing changes. A conversion whose regions
overlap is refused (R74). -/
def engineTurn (s : State) : Result :=
  if !s.busy then .next s
  else if s.regionsOverlap then .refused .overlappingRegions
  else if s.stepAccesses.any fun a => decide (Config.addressSpaceSize ≤ a) then .fault .addressOutsideSpace
  else if s.stepAccesses.all s.admitted then .next s.groupStep
  else .next s

/-- What happens when no event is pending: under a weakly fair schedule the Engine has the turn, and under an unfair one
nothing happens, so that a conversion may never complete (70_reset R299, log 2). -/
def unlistedTurn (s : State) : Result := if s.fair then engineTurn s else .next s

end Sys2Proof.Machine
end

