-- ==== Sys2Proof/Machine/Platform.lean ====
section
/-! DEFINITION. What the platform does: the host's own loads and stores of platform memory (00_scope R6, 20_memory R72,
R73) and reset (70_reset R290). -/

namespace Sys2Proof.Machine

/-- The byte a racing load of DST byte `a` returns: its value before the START or its final value, and which of the
two is a free value (20_memory R72, log 10). DESIGN CHOICE (log 25): no rule says what the final value is of a byte that a
stuck engine never writes (R80); here it is the value the group step would write, computed from the memory at the START,
bytes that are not admitted included. -/
def racingByte (s : State) (a : Nat) : Byte :=
  if Config.raceReadsFinal s.raceCount then finalByte s (a - s.dstBase.toNat) else s.startMem.read a

/-- The next racing load takes a fresh free value; nothing else changes. -/
def State.countRace (s : State) : State := { s with raceCount := s.raceCount + 1 }

/-- A byte of platform memory is stored; nothing else changes. -/
def State.storeByte (s : State) (a : Nat) (v : Byte) : State := { s with mem := s.mem.write a v }

/-- The host's own load of a byte. Of a DST byte while BUSY = 1 it races (20_memory R72); in a conversion whose
regions overlap that has no meaning (R74). Otherwise it returns what memory holds (R71, log 17). -/
def platformLoad (addr : Word) (s : State) : Result :=
  if s.busy && s.inDst addr.toNat then
    if s.regionsOverlap then .refused .overlappingRegions
    else .next (s.countRace.observe (.platformRead (racingByte s addr.toNat)))
  else .next (s.observe (.platformRead (s.mem.read addr.toNat)))

/-- A store of a byte by the host, or by any other master. Into the SRC or DST region while BUSY = 1 it has no meaning
(20_memory R73); otherwise it is performed at once (R75, log 17). -/
def platformStore (addr : Word) (v : Byte) (s : State) : Result :=
  if s.busy && (s.inSrc addr.toNat || s.inDst addr.toNat) then .refused .storeToBusyRegion
  else .next (s.storeByte addr.toNat v)

/-- The reset input, a step of its own (70_reset R290). -/
def platformReset (s : State) : Result := .next s.resetBlock

end Sys2Proof.Machine
end

