-- ==== Sys2Proof/Machine/Step.lean ====
section
/-! DEFINITION. One step: the next pending event happens; with none pending, the schedule's
fairness decides (logs 1 and 2). -/

namespace Sys2Proof.Machine

/-- What one event does. -/
def handle (e : Event) (s : State) : Result :=
  match e with
  | .txn w => exec (decodeTxn w) s
  | .port we off data => exec (decodeTxn (txnOfPort we off data)) s
  | .modeCode m => exec (decodeMode m) s
  | .engine => engineTurn s
  | .reset => platformReset s
  | .load addr => platformLoad addr s
  | .store addr v => platformStore addr v s

/-- One step. The event is taken off the list, and happens. -/
def step (s : State) : Host.Outcome State Fault Refusal :=
  match s.pending with
  | [] => unlistedTurn s
  | e :: rest => handle e (s.withPending rest)

/-- The instruction of a table row's bits placed where the next step takes it. -/
def State.withFetchWord (s : State) (nbits w : Nat) : State := s.presentTableWord nbits w

end Sys2Proof.Machine
end

