-- ==== Sys2Proof/Machine/Assembler.lean ====
section
/-! DEFINITION. The host program notation as far as it is the hardware's (30_encoding R103, R104): the level functions
and the expansions of the pseudo-instructions. -/

namespace Sys2Proof.Machine

/-- `clev(t)` = floor(765*t) of the decimal `t = num / den`, evaluated exactly (30_encoding R103, 40_classifier R131,
log 20). -/
def clev (num den : Nat) : Nat := 765 * num / den

/-- `alev(t)` = floor(255*t) of the decimal `t = num / den`, evaluated exactly (30_encoding R103, 40_classifier
R131, log 20). -/
def alev (num den : Nat) : Nat := 255 * num / den

/-- The pseudo-instructions (30_encoding R104). `wait` has the number of extra polls the host decided on (log 21). -/
inductive Pseudo where
  | start
  | policy (mode n cl al : Nat)
  | dims (w h : Nat)
  | src (base len : Nat)
  | dst (base len : Nat)
  | classify (r g b a : Nat)
  | wait (morePolls : Nat)
  deriving DecidableEq, Repr

/-- An expression reduced to 32 bits (30_encoding R103). -/
def exprWord (e : Nat) : Word := BitVec.ofNat 32 e

/-- The expansion (30_encoding R104). -/
def expand : Pseudo → List Instr
  | .start => [.wrCtrlStart 1#32]
  | .policy mode n cl al =>
    [.wrCfg (exprWord (n <<< 8 ||| mode)), .wrCthr (exprWord cl), .wrAthr (exprWord al)]
  | .dims w h => [.wrWidth (exprWord w), .wrHeight (exprWord h)]
  | .src base len => [.wrSrcBase (exprWord base), .wrSrcLen (exprWord len)]
  | .dst base len => [.wrDstBase (exprWord base), .wrDstLen (exprWord len)]
  | .classify r g b a =>
    [.wrPixel (exprWord (a <<< 24 ||| b <<< 16 ||| g <<< 8 ||| r)), .rdClass]
  | .wait morePolls => List.replicate (morePolls + 1) .rdStatus

end Sys2Proof.Machine
end

