-- ==== Sys2Proof/Safety.lean ====
section
/-! DEFINITION. What a good state is, in the terms the statements use: the memory in its canonical form, STATUS at a
legal value, the cursor and the configuration of a conversion as its START left them, and DST as far as the conversion
came. And what a run's end shows (70_reset R300). -/

namespace Sys2Proof.Machine

/-! ### A conversion, group by group -/

/-- The column of group `k`: `k = y*(W/8) + xg/8` (41_packer R188). -/
def groupColumn (s : State) (k : Nat) : Nat := 8 * (k % (s.w / 8))

/-- The row of group `k`. -/
def groupRow (s : State) (k : Nat) : Nat := k / (s.w / 8)

/-- How many groups the conversion has processed (41_packer R188). -/
def State.groupsDone (s : State) : Nat := s.y * (s.w / 8) + s.xg / 8

/-- What the memory port does in group `k` (20_memory R67). -/
def groupAccess (s : State) (k : Nat) : GroupAccess :=
  ⟨groupReads s (groupColumn s k) (groupRow s k), s.dstBase.toNat + k, finalByte s k⟩

/-! ### Good states -/

/-- Both memories are in the canonical form. -/
def State.MemoryCanonical (s : State) : Prop :=
  s.mem.wf = true ∧ s.startMem.wf = true

/-- STATUS reads a legal value (42_host_access R225): 0, 1, 2, or 6 + (code << 8) for a code in 1 .. 10. -/
def State.StatusLegal (s : State) : Prop :=
  statusWord s = 0x00000000#32 ∨ statusWord s = 0x00000001#32 ∨ statusWord s = 0x00000002#32 ∨
    ∃ code : Nat, 1 ≤ code ∧ code ≤ 10 ∧ statusWord s = BitVec.ofNat 32 (6 + code * 2 ^ 8)

/-- The column of the cursor is a multiple of 8 (10_state R39). -/
def State.CursorAligned (s : State) : Prop := s.xg % 8 = 0

/-- While BUSY = 1, every check of the START still passes, and the cursor stands at a group of the image
(10_state R38, 41_packer R188). -/
def State.ConversionLegal (s : State) : Prop :=
  s.busy = true → firstViolation s = none ∧ s.y < s.h ∧ s.xg < s.w

/-- While BUSY = 1, the SRC region holds what it held at the START (20_memory R75). -/
def State.SourceStable (s : State) : Prop :=
  s.busy = true → ∀ a, s.inSrc a = true → s.mem.read a = s.startMem.read a

/-- While BUSY = 1, the DST bytes of the groups processed hold their final values, and the others hold their values
from before the START (70_reset R291). -/
def State.DestinationPrefix (s : State) : Prop :=
  s.busy = true → ∀ k, k < s.dstBytes →
    s.mem.read (s.dstBase.toNat + k) =
      if k < s.groupsDone then finalByte s k else s.startMem.read (s.dstBase.toNat + k)

/-- While BUSY = 1, the newest accesses of the memory port are those of the groups processed, each once, in order
(20_memory R67, R70). -/
def State.TrafficPrefix (s : State) : Prop :=
  s.busy = true → ∃ older, s.traffic = ((List.range s.groupsDone).map (groupAccess s)).reverse ++ older

/-- A state a run from reset can be in, as far as a conversion goes. -/
structure State.Good (s : State) : Prop where
  aligned : s.CursorAligned
  legal : s.ConversionLegal
  source : s.SourceStable
  destination : s.DestinationPrefix
  traffic : s.TrafficPrefix

/-- A conversion can start and run to its end: BUSY = 0, every check passes, the regions do not overlap, every byte of
both is admitted, and the schedule is weakly fair to the Engine (70_reset R293, R299; log 2). -/
structure State.Startable (s : State) : Prop where
  idle : s.busy = false
  checks : firstViolation s = none
  disjoint : s.regionsOverlap = false
  admits : ∀ a, s.inSrc a = true ∨ s.inDst a = true → s.admitted a = true
  fair : s.fair = true

/-- The engine is stuck: BUSY = 1, and its group step would make an access that is not admitted (20_memory R80). -/
structure State.Stuck (s : State) : Prop where
  busy : s.busy = true
  disjoint : s.regionsOverlap = false
  inSpace : ∀ a ∈ s.stepAccesses, a < Config.addressSpaceSize
  unadmitted : ∃ a ∈ s.stepAccesses, s.admitted a = false

/-- Events under which a conversion runs on: no reset, and no store into its regions (20_memory R73, 70_reset R291). -/
def State.Undisturbed (s : State) : Prop :=
  ∀ e ∈ s.pending, e ≠ .reset ∧
    ∀ addr v, e = .store addr v → s.inSrc addr.toNat = false ∧ s.inDst addr.toNat = false

/-! ### The end of a run (70_reset R300) -/

/-- The event is a transaction of the host: a register transaction on the host port (42_host_access R220, 30_encoding
R103). DEDUCED (log 24): a load or a store of platform memory is none, since 20_memory R60 calls it a platform transaction
outside the block. -/
def Event.isHostTransaction : Event → Bool
  | .txn _ => true
  | .port _ _ _ => true
  | .modeCode _ => false
  | .engine => false
  | .reset => false
  | .load _ => false
  | .store _ _ => false

/-- The host has performed its last transaction, so that none is to come, and BUSY = 0. What the other agents do next does
not matter: the observation is taken here. -/
def State.RunEnded (s : State) : Prop :=
  (∀ e ∈ s.pending, e.isHostTransaction = false) ∧ s.busy = false

/-- The sixteen registers, by index. -/
def allRegs : List RegName :=
  [.id, .ctrl, .status, .cfg, .cthr, .athr, .width, .height, .srcBase, .srcLen, .dstBase, .dstLen, .bytes, .pixel,
    .cls, .rsv15]

/-- What is observed at the end: the sixteen register values and the platform memory. -/
def State.observation (s : State) : List Word × Memory := (allRegs.map fun r => readReg r s, s.mem)

/-- A step stops: it faults or is refused. -/
def Stops (s : State) : Prop := ∀ t, step s ≠ .next t

end Sys2Proof.Machine
end

