-- ==== Sys2Proof/Certificates/Slice0/Obligations.lean ====
section
/-! DEFINITION. The statements for the provers, each from the numbered rules of spec/. A statement about a
transaction's result is also its completion: its conclusion is that `exec` answers that next state. -/

namespace Sys2Proof.Machine

/-! ### What the statements speak of, in the spec's own terms -/

/-- A row of spec/opcode_table.json of format TXN37: its match, its mask, and the instruction it stands for. -/
structure TableRow where
  pattern : BitVec 37
  mask : BitVec 37
  build : Word → Instr

/-- Rows 1 to 11 of the TXN37 rows of spec/opcode_table.json. -/
def txnRows1 : List TableRow := [
  ⟨0x0000000000#37, 0x1F00000000#37, fun _ => .rdId⟩,
  ⟨0x1000000000#37, 0x1F00000000#37, .wrId⟩,
  ⟨0x0100000000#37, 0x1F00000000#37, fun _ => .rdCtrl⟩,
  ⟨0x1100000000#37, 0x1F00000001#37, .wrCtrlNop⟩,
  ⟨0x1100000001#37, 0x1F00000001#37, .wrCtrlStart⟩,
  ⟨0x0200000000#37, 0x1F00000000#37, fun _ => .rdStatus⟩,
  ⟨0x1200000000#37, 0x1F00000000#37, .wrStatus⟩,
  ⟨0x0300000000#37, 0x1F00000000#37, fun _ => .rdCfg⟩,
  ⟨0x1300000000#37, 0x1F00000000#37, .wrCfg⟩,
  ⟨0x0400000000#37, 0x1F00000000#37, fun _ => .rdCthr⟩,
  ⟨0x1400000000#37, 0x1F00000000#37, .wrCthr⟩]

/-- Rows 12 to 22 of the TXN37 rows of spec/opcode_table.json. -/
def txnRows2 : List TableRow := [
  ⟨0x0500000000#37, 0x1F00000000#37, fun _ => .rdAthr⟩,
  ⟨0x1500000000#37, 0x1F00000000#37, .wrAthr⟩,
  ⟨0x0600000000#37, 0x1F00000000#37, fun _ => .rdWidth⟩,
  ⟨0x1600000000#37, 0x1F00000000#37, .wrWidth⟩,
  ⟨0x0700000000#37, 0x1F00000000#37, fun _ => .rdHeight⟩,
  ⟨0x1700000000#37, 0x1F00000000#37, .wrHeight⟩,
  ⟨0x0800000000#37, 0x1F00000000#37, fun _ => .rdSrcBase⟩,
  ⟨0x1800000000#37, 0x1F00000000#37, .wrSrcBase⟩,
  ⟨0x0900000000#37, 0x1F00000000#37, fun _ => .rdSrcLen⟩,
  ⟨0x1900000000#37, 0x1F00000000#37, .wrSrcLen⟩,
  ⟨0x0A00000000#37, 0x1F00000000#37, fun _ => .rdDstBase⟩]

/-- Rows 23 to 33 of the TXN37 rows of spec/opcode_table.json. -/
def txnRows3 : List TableRow := [
  ⟨0x1A00000000#37, 0x1F00000000#37, .wrDstBase⟩,
  ⟨0x0B00000000#37, 0x1F00000000#37, fun _ => .rdDstLen⟩,
  ⟨0x1B00000000#37, 0x1F00000000#37, .wrDstLen⟩,
  ⟨0x0C00000000#37, 0x1F00000000#37, fun _ => .rdBytes⟩,
  ⟨0x1C00000000#37, 0x1F00000000#37, .wrBytes⟩,
  ⟨0x0D00000000#37, 0x1F00000000#37, fun _ => .rdPixel⟩,
  ⟨0x1D00000000#37, 0x1F00000000#37, .wrPixel⟩,
  ⟨0x0E00000000#37, 0x1F00000000#37, fun _ => .rdClass⟩,
  ⟨0x1E00000000#37, 0x1F00000000#37, .wrClass⟩,
  ⟨0x0F00000000#37, 0x1F00000000#37, fun _ => .rdRsv15⟩,
  ⟨0x1F00000000#37, 0x1F00000000#37, .wrRsv15⟩]

/-- The TXN37 rows of spec/opcode_table.json, in the table's order. -/
def txnRows : List TableRow := txnRows1 ++ txnRows2 ++ txnRows3

/-- Every word of a row's match and mask decodes to the row's instruction, with the word's DATA (30_encoding R90). -/
def Encodes (pattern mask : BitVec 37) (build : Word → Instr) : Prop :=
  ∀ w : BitVec 37, w &&& mask = pattern → decodeTxn w = build (w.setWidth 32)

/-- Which bits of a write to a register a later read of it returns (30_encoding R94): the writable mask, where CTRL's
trigger bit holds nothing. -/
def readBackMask : RegName → Word
  | .cfg => 0x00000707#32
  | .cthr => 0x000003FF#32
  | .athr => 0x000000FF#32
  | .width => 0x0000FFFF#32
  | .height => 0x0000FFFF#32
  | .srcBase => 0xFFFFFFFF#32
  | .srcLen => 0xFFFFFFFF#32
  | .dstBase => 0xFFFFFFFF#32
  | .dstLen => 0xFFFFFFFF#32
  | .pixel => 0xFFFFFFFF#32
  | .id => 0#32
  | .ctrl => 0#32
  | .status => 0#32
  | .bytes => 0#32
  | .cls => 0#32
  | .rsv15 => 0#32

/-- The classified bit of pixel (x, y) of the image that memory `m` holds under the configuration of `s`: FetchPixel of
41_packer R185, then PCLS. -/
def imageBit (s : State) (m : Memory) (x y : Nat) : Bool :=
  (pcls (m.read (s.srcBase.toNat + (y * s.width.toNat + x) * s.channels.toNat))
    (m.read (s.srcBase.toNat + (y * s.width.toNat + x) * s.channels.toNat + 1))
    (m.read (s.srcBase.toNat + (y * s.width.toNat + x) * s.channels.toNat + 2))
    (if s.channels = 4#3 then m.read (s.srcBase.toNat + (y * s.width.toNat + x) * s.channels.toNat + 3) else 0#8)
    s.channels s.mode s.cthr s.athr).bit

/-- The sum of PIXEL's R, G and B, exact (40_classifier R132). -/
def pixelSum (p : Word) : Nat := (pixelR p).toNat + (pixelG p).toNat + (pixelB p).toNat

/-- The Host performs START as its only pending transaction. -/
def State.StartPending (s : State) : Prop := s.pending = [.txn 0x1100000001#37]

end Sys2Proof.Machine

open Sys2Proof Sys2Proof.Machine

/-! ### Encoding -/

/-- Words written out in 95_test_vectors decode to the transactions they are written for. -/
def Obligations.SpecWordsDecode : Prop :=
  decodeTxn 0x1100000001#37 = .wrCtrlStart 1#32 ∧ decodeTxn 0x11FFFFFFFE#37 = .wrCtrlNop 0xFFFFFFFE#32 ∧
    decodeTxn 0x0200000000#37 = .rdStatus ∧ decodeTxn 0x13FFFFFFFF#37 = .wrCfg 0xFFFFFFFF#32 ∧
    decodeTxn 0x14000002B0#37 = .wrCthr 688#32 ∧ decodeTxn 0x1712345678#37 = .wrHeight 0x12345678#32 ∧
    decodeTxn 0x18DEADBEEF#37 = .wrSrcBase 0xDEADBEEF#32 ∧ decodeTxn 0x1D01020304#37 = .wrPixel 0x01020304#32 ∧
    decodeTxn 0x0E00000000#37 = .rdClass ∧ decodeTxn 0x1FFFFFFFFF#37 = .wrRsv15 0xFFFFFFFF#32 ∧
    decodeMode 0b000#3 = .modeColorAndAlpha ∧ decodeMode 0b001#3 = .modeColorOrAlpha ∧
    decodeMode 0b010#3 = .modeOnlyAlpha ∧ decodeMode 0b011#3 = .modeIgnoreAlpha ∧
    decodeMode 0b100#3 = .modeInvalid 0b100#3 ∧ decodeMode 0b111#3 = .modeInvalid 0b111#3

/-- Decode and encode agree: for every well-formed instruction, with every operand at every value (30_encoding R90,
R96). -/
def Obligations.DecodeOfEncodeIsIdentity : Prop :=
  ∀ i : Instr, i.wf = true → decode (encode i) = i

/-- Encoding a decoded word gives the word back, but for the DATA of a read, which is ignored and canonically 0
(30_encoding R90); a mode code always comes back (R96). -/
def Obligations.EncodeOfDecodeIsCanonical : Prop :=
  (∀ w : BitVec 37, encode (decodeTxn w) = .txn37 (if w.getLsbD 36 then w else w &&& 0x1F00000000#37)) ∧
    ∀ m : BitVec 3, encode (decodeMode m) = .mode3 m

/-- Every one of the 2^37 words matches exactly one row of the opcode table, and decodes to that row's instruction with
its DATA; and the instruction is well formed (30_encoding R100). -/
def Obligations.EveryWordMatchesOneTableRow : Prop :=
  ∀ w : BitVec 37, (decodeTxn w).wf = true ∧
    ∃ r ∈ txnRows, w &&& r.mask = r.pattern ∧ decodeTxn w = r.build (w.setWidth 32) ∧
      ∀ q ∈ txnRows, w &&& q.mask = q.pattern → q.pattern = r.pattern ∧ q.mask = r.mask

/-- A step takes the next event off the list and performs it: a transaction word, a host-port access or a mode code as
`exec` of the well-formed instruction it decodes to; the engine's turn; reset; a platform load or store. With no event
pending the Engine has the turn where the schedule is weakly fair, and nothing happens where it is not (00_scope R6,
42_host_access R220, 70_reset R290, R299). That the order of events is a list of the state (log 1), that the schedule after
it is a field (log 2), and that a mode code is a step (log 4) are the model's choices. -/
def Obligations.StepRunsDecodedInstruction : Prop :=
  ∀ (s : State) (rest : List Event),
    (∀ w, s.pending = .txn w :: rest →
      (decodeTxn w).wf = true ∧ step s = exec (decodeTxn w) { s with pending := rest }) ∧
    (∀ we off data, s.pending = .port we off data :: rest →
      (decodeTxn (txnOfPort we off data)).wf = true ∧
        step s = exec (decodeTxn (txnOfPort we off data)) { s with pending := rest }) ∧
    (∀ m, s.pending = .modeCode m :: rest →
      (decodeMode m).wf = true ∧ step s = exec (decodeMode m) { s with pending := rest }) ∧
    (s.pending = .engine :: rest → step s = engineTurn { s with pending := rest }) ∧
    (s.pending = .reset :: rest → step s = platformReset { s with pending := rest }) ∧
    (∀ addr, s.pending = .load addr :: rest → step s = platformLoad addr { s with pending := rest }) ∧
    (∀ addr v, s.pending = .store addr v :: rest → step s = platformStore addr v { s with pending := rest }) ∧
    (s.pending = [] → step s = if s.fair = true then engineTurn s else .next s)

/-- Bits of a table row placed where the next step fetches are performed by that step, and nothing else of the state is
touched on the way. The model's choices: a program is loaded from outside the machine (log 1), a MODE3 code is performed
as a step (log 4), and a row's bits stand in whole bytes (log 12). -/
def Obligations.PlacedWordRunsNext : Prop :=
  ∀ (s : State) (nbits w : Nat) (i : Instr), decodeTableWord nbits w = some i →
    step (s.withFetchWord nbits w) = exec i s

/-- A host-port access performs the transaction of the word that contains its byte offset: `IDX = off[5:2]`, and
`off[1:0]` is ignored (30_encoding R91, 20_memory R65). -/
def Obligations.PortOffsetSelectsRegister : Prop :=
  ∀ (s : State) (rest : List Event) (we : Bool) (off : BitVec 6) (data : Word),
    s.pending = .port we off data :: rest →
    ∃ w : BitVec 37, w.toNat = we.toNat * 2 ^ 36 + off.toNat / 4 * 2 ^ 32 + data.toNat ∧
      step s = exec (decodeTxn w) { s with pending := rest }

/-! ### Read transactions -/

/-- RD_CFG to RD_DST_LEN: every word of each row decodes to it, and it returns the register's fields, zero-extended, and
changes nothing but the record of what the host saw: not one byte of memory (42_host_access R227 to R243). -/
def Obligations.ConfigurationReadsReturnFields : Prop :=
  (Encodes 0x0300000000#37 0x1F00000000#37 (fun _ => .rdCfg) ∧
    Encodes 0x0400000000#37 0x1F00000000#37 (fun _ => .rdCthr) ∧
    Encodes 0x0500000000#37 0x1F00000000#37 (fun _ => .rdAthr) ∧
    Encodes 0x0600000000#37 0x1F00000000#37 (fun _ => .rdWidth) ∧
    Encodes 0x0700000000#37 0x1F00000000#37 (fun _ => .rdHeight) ∧
    Encodes 0x0800000000#37 0x1F00000000#37 (fun _ => .rdSrcBase) ∧
    Encodes 0x0900000000#37 0x1F00000000#37 (fun _ => .rdSrcLen) ∧
    Encodes 0x0A00000000#37 0x1F00000000#37 (fun _ => .rdDstBase) ∧
    Encodes 0x0B00000000#37 0x1F00000000#37 (fun _ => .rdDstLen)) ∧
  ∀ s : State,
    exec .rdCfg s = .next { s with observed := .hostRead (0#21 ++ (s.channels ++ (0#5 ++ s.mode))) :: s.observed } ∧
    exec .rdCthr s = .next { s with observed := .hostRead (s.cthr.setWidth 32) :: s.observed } ∧
    exec .rdAthr s = .next { s with observed := .hostRead (s.athr.setWidth 32) :: s.observed } ∧
    exec .rdWidth s = .next { s with observed := .hostRead (s.width.setWidth 32) :: s.observed } ∧
    exec .rdHeight s = .next { s with observed := .hostRead (s.height.setWidth 32) :: s.observed } ∧
    exec .rdSrcBase s = .next { s with observed := .hostRead s.srcBase :: s.observed } ∧
    exec .rdSrcLen s = .next { s with observed := .hostRead s.srcLen :: s.observed } ∧
    exec .rdDstBase s = .next { s with observed := .hostRead s.dstBase :: s.observed } ∧
    exec .rdDstLen s = .next { s with observed := .hostRead s.dstLen :: s.observed }

/-- RD_ID returns the constant, RD_CTRL and RD_RSV15 return 0 (during a conversion too), and RD_PIXEL returns the
sample; every word of each row decodes to it, and nothing changes (42_host_access R221, R224, R252, R247). -/
def Obligations.FixedReadsReturnConstants : Prop :=
  (Encodes 0x0000000000#37 0x1F00000000#37 (fun _ => .rdId) ∧
    Encodes 0x0100000000#37 0x1F00000000#37 (fun _ => .rdCtrl) ∧
    Encodes 0x0F00000000#37 0x1F00000000#37 (fun _ => .rdRsv15) ∧
    Encodes 0x0D00000000#37 0x1F00000000#37 (fun _ => .rdPixel)) ∧
  ∀ s : State,
    exec .rdId s = .next { s with observed := .hostRead 0x58424D31#32 :: s.observed } ∧
    exec .rdCtrl s = .next { s with observed := .hostRead 0#32 :: s.observed } ∧
    exec .rdRsv15 s = .next { s with observed := .hostRead 0#32 :: s.observed } ∧
    exec .rdPixel s = .next { s with observed := .hostRead s.pixel :: s.observed }

/-- RD_STATUS returns ERRCODE in bits 11:8, ERR in 2, DONE in 1, BUSY in 0 and zeros elsewhere, and clears none of
them (42_host_access R225, 30_encoding R95). The value is given as a number, so no field runs into another. -/
def Obligations.StatusReadReturnsFlags : Prop :=
  ∀ s : State, ∃ v : Word,
    exec .rdStatus s = .next { s with observed := .hostRead v :: s.observed } ∧
      v.toNat = s.errCode.toNat * 2 ^ 8 + s.err.toNat * 2 ^ 2 + s.done.toNat * 2 + s.busy.toNat

/-- RD_BYTES returns VALID and COUNT: with both dimensions positive multiples of 8 it is 2^31 + (W/8)*H, the product
exact and below 2^29; with any other dimensions it is 0; busy or not, whatever CFG is (41_packer R190, 42_host_access
R245). -/
def Obligations.BytesReadReturnsExactCount : Prop :=
  Encodes 0x0C00000000#37 0x1F00000000#37 (fun _ => .rdBytes) ∧ ∀ s : State, ∃ v : Word,
    exec .rdBytes s = .next { s with observed := .hostRead v :: s.observed } ∧
      ((0 < s.width.toNat ∧ 0 < s.height.toNat ∧ s.width.toNat % 8 = 0 ∧ s.height.toNat % 8 = 0) →
        v.toNat = 2 ^ 31 + s.width.toNat / 8 * s.height.toNat ∧ s.width.toNat / 8 * s.height.toNat < 2 ^ 29) ∧
      (¬ (0 < s.width.toNat ∧ 0 < s.height.toNat ∧ s.width.toNat % 8 = 0 ∧ s.height.toNat % 8 = 0) → v = 0#32)

/-- RD_CLASS returns ABIT, CBIT, OK and BIT of PCLS on PIXEL, CFG.CHANNELS, CFG.MODE, CTHR and ATHR as they are now
(42_host_access R249). -/
def Obligations.ClassReadReturnsClassifierOutputs : Prop :=
  Encodes 0x0E00000000#37 0x1F00000000#37 (fun _ => .rdClass) ∧ ∀ s : State, ∃ v : Word,
    exec .rdClass s = .next { s with observed := .hostRead v :: s.observed } ∧
      let o := pcls (s.pixel.extractLsb' 0 8) (s.pixel.extractLsb' 8 8) (s.pixel.extractLsb' 16 8)
        (s.pixel.extractLsb' 24 8) s.channels s.mode s.cthr s.athr
      v.toNat = o.abit.toNat * 8 + o.cbit.toNat * 4 + o.ok.toNat * 2 + o.bit.toNat

/-! ### Write transactions -/

/-- Writes to ID, BYTES, CLASS and the reserved index, to CTRL with bit 0 clear, and to STATUS, change nothing, whatever
DATA is and whether or not BUSY = 1; every word of each row decodes to it (42_host_access R251, R246, R250, R253, R223,
R226). -/
def Obligations.ReadOnlyWritesChangeNothing : Prop :=
  (Encodes 0x1000000000#37 0x1F00000000#37 .wrId ∧ Encodes 0x1C00000000#37 0x1F00000000#37 .wrBytes ∧
    Encodes 0x1E00000000#37 0x1F00000000#37 .wrClass ∧ Encodes 0x1F00000000#37 0x1F00000000#37 .wrRsv15 ∧
    Encodes 0x1100000000#37 0x1F00000001#37 .wrCtrlNop ∧ Encodes 0x1200000000#37 0x1F00000000#37 .wrStatus) ∧
  ∀ (data : Word) (s : State),
    exec (.wrId data) s = .next s ∧ exec (.wrBytes data) s = .next s ∧ exec (.wrClass data) s = .next s ∧
      exec (.wrRsv15 data) s = .next s ∧ exec (.wrCtrlNop data) s = .next s ∧ exec (.wrStatus data) s = .next s

/-- WR_CFG to WR_DST_LEN: every word of each row decodes to it; with BUSY = 0 it stores the register's fields of DATA
and changes nothing else, and with BUSY = 1 it changes nothing (42_host_access R228 to R244). -/
def Obligations.ConfigurationWritesStoreFields : Prop :=
  (Encodes 0x1300000000#37 0x1F00000000#37 .wrCfg ∧
    Encodes 0x1400000000#37 0x1F00000000#37 .wrCthr ∧
    Encodes 0x1500000000#37 0x1F00000000#37 .wrAthr ∧
    Encodes 0x1600000000#37 0x1F00000000#37 .wrWidth ∧
    Encodes 0x1700000000#37 0x1F00000000#37 .wrHeight ∧
    Encodes 0x1800000000#37 0x1F00000000#37 .wrSrcBase ∧
    Encodes 0x1900000000#37 0x1F00000000#37 .wrSrcLen ∧
    Encodes 0x1A00000000#37 0x1F00000000#37 .wrDstBase ∧
    Encodes 0x1B00000000#37 0x1F00000000#37 .wrDstLen) ∧
  ∀ (data : Word) (s : State),
    exec (.wrCfg data) s =
      .next (if s.busy = true then s else { s with mode := data.extractLsb' 0 3, channels := data.extractLsb' 8 3 }) ∧
    exec (.wrCthr data) s =
      .next (if s.busy = true then s else { s with cthr := data.extractLsb' 0 10 }) ∧
    exec (.wrAthr data) s =
      .next (if s.busy = true then s else { s with athr := data.extractLsb' 0 8 }) ∧
    exec (.wrWidth data) s =
      .next (if s.busy = true then s else { s with width := data.extractLsb' 0 16 }) ∧
    exec (.wrHeight data) s =
      .next (if s.busy = true then s else { s with height := data.extractLsb' 0 16 }) ∧
    exec (.wrSrcBase data) s =
      .next (if s.busy = true then s else { s with srcBase := data }) ∧
    exec (.wrSrcLen data) s =
      .next (if s.busy = true then s else { s with srcLen := data }) ∧
    exec (.wrDstBase data) s =
      .next (if s.busy = true then s else { s with dstBase := data }) ∧
    exec (.wrDstLen data) s =
      .next (if s.busy = true then s else { s with dstLen := data })

/-- With BUSY = 1 a write to a configuration register is dropped: nothing changes (70_reset R294, 10_state R38). -/
def Obligations.ConfigurationWritesDroppedWhileBusy : Prop :=
  ∀ (data : Word) (s : State), s.busy = true →
    ∀ i ∈ [Instr.wrCfg data, .wrCthr data, .wrAthr data, .wrWidth data, .wrHeight data, .wrSrcBase data,
      .wrSrcLen data, .wrDstBase data, .wrDstLen data], exec i s = .next s

/-- WR_PIXEL stores DATA whole, R, G, B and A from its bytes, busy or not, and changes nothing else; it does not affect
a conversion: the engine's turn does with it what it does without it. Every word of the row decodes to it
(42_host_access R248). -/
def Obligations.PixelWriteIsNeverFrozen : Prop :=
  Encodes 0x1D00000000#37 0x1F00000000#37 .wrPixel ∧
  ∀ (data : Word) (s : State),
    exec (.wrPixel data) s = .next { s with pixel := data } ∧
      pixelR data = data.extractLsb' 0 8 ∧ pixelG data = data.extractLsb' 8 8 ∧ pixelB data = data.extractLsb' 16 8 ∧
      pixelA data = data.extractLsb' 24 8 ∧
      ∀ u, engineTurn s = .next u → engineTurn { s with pixel := data } = .next { u with pixel := data }

/-- The register map: after a write to a register, a read of the same index returns DATA under the writable mask, or the
old value where the register is read-only (no bit is writable) or frozen (BUSY = 1 and it is not PIXEL); the read itself
changes nothing (30_encoding R93, R94, 70_reset R294). -/
def Obligations.RegisterMapReadsBackMasked : Prop :=
  ∀ (r : RegName) (data other : Word) (s : State),
    ∃ t, exec (decodeTxn (txnWord true r.index data)) s = .next t ∧
      exec (decodeTxn (txnWord false r.index other)) t =
        .next { t with
          observed := .hostRead (if readBackMask r = 0#32 ∨ (s.busy = true ∧ r ≠ .pixel) then readReg r s
                                 else data &&& readBackMask r) :: t.observed }

/-! ### START -/

/-- A START while BUSY = 1 is dropped: nothing changes and nothing is queued (41_packer R171, 70_reset R297). -/
def Obligations.StartWhileBusyIsDropped : Prop :=
  ∀ (data : Word) (s : State), s.busy = true → exec (.wrCtrlStart data) s = .next s

/-- A START that finds BUSY = 0 and fails a check reports the code of the FIRST check that fails, in the order of
41_packer R172, with exact arithmetic, and changes nothing else: not a register, not the cursor, not a byte of memory
(41_packer R173 to R182, 60_exceptions R262, R263). -/
def Obligations.StartReportsFirstFailingCheck : Prop :=
  ∀ (data : Word) (s : State), s.busy = false →
    let W := s.width.toNat
    let H := s.height.toNat
    let n := s.channels.toNat
    let m := s.mode.toNat
    let code : Nat :=
      if W = 0 ∨ H = 0 then 1
      else if W % 8 ≠ 0 then 2
      else if H % 8 ≠ 0 then 3
      else if m > 3 then 4
      else if n ≠ 3 ∧ n ≠ 4 then 5
      else if m ≠ 3 ∧ n ≠ 4 then 6
      else if s.srcLen.toNat < W * H * n then 7
      else if s.dstLen.toNat < W / 8 * H then 8
      else if s.srcBase.toNat + W * H * n > 2 ^ 32 then 9
      else if s.dstBase.toNat + W / 8 * H > 2 ^ 32 then 10
      else 0
    code ≠ 0 → ∃ t, exec (.wrCtrlStart data) s = .next t ∧
      t = { s with done := true, err := true, errCode := BitVec.ofNat 4 code } ∧
      statusWord t = BitVec.ofNat 32 (0x00000006 + code * 2 ^ 8)

/-- A START that finds BUSY = 0 and passes every check is accepted: STATUS is 0x00000001, the cursor is (0, 0), no
memory access happens, and nothing else of the block changes (41_packer R183). From then on the engine's group step is
enabled, where every byte of both regions is admitted (41_packer R184, 20_memory R80) and the regions do not overlap
(R74): that an overlap is refused at the group step, and not at the START, is the model's reading (log 8). The memory at
the START, of which R75 speaks, is kept in `startMem`, the model's own field (log 18). -/
def Obligations.AcceptedStartEnablesEngine : Prop :=
  ∀ (data : Word) (s : State), s.busy = false →
    s.width.toNat ≠ 0 → s.height.toNat ≠ 0 → s.width.toNat % 8 = 0 → s.height.toNat % 8 = 0 → s.mode.toNat ≤ 3 →
    (s.channels.toNat = 3 ∨ s.channels.toNat = 4) → (s.mode.toNat = 3 ∨ s.channels.toNat = 4) →
    s.width.toNat * s.height.toNat * s.channels.toNat ≤ s.srcLen.toNat →
    s.width.toNat / 8 * s.height.toNat ≤ s.dstLen.toNat →
    s.srcBase.toNat + s.width.toNat * s.height.toNat * s.channels.toNat ≤ 2 ^ 32 →
    s.dstBase.toNat + s.width.toNat / 8 * s.height.toNat ≤ 2 ^ 32 →
    ∃ t, exec (.wrCtrlStart data) s = .next t ∧
      t = { s with busy := true, done := false, err := false, errCode := 0#4, curY := 0#16, curXg := 0#16,
                   startMem := s.mem } ∧
      statusWord t = 0x00000001#32 ∧
      (s.regionsOverlap = false → (∀ a, s.inSrc a = true ∨ s.inDst a = true → s.admitted a = true) →
        engineTurn t = .next t.groupStep)

/-! ### The machine as a whole -/

/-- Every transaction and every mode code completes, in every state. Of the transactions: there are no illegal encodings,
nothing traps (30_encoding R100). Of the mode codes, whose invalid codes show OK = 0 and BIT = 0 (40_classifier R135 to
R139): that a code is a step of the machine is the model's choice (log 4). -/
def Obligations.EveryInstructionCompletes : Prop :=
  ∀ (i : Instr) (s : State), ∃ t, exec i s = .next t

/-- STATUS is written only by a START that finds BUSY = 0, by a completion, and by reset; nothing else writes it
(10_state R24). The events are what the step performed. -/
def Obligations.OnlyStartCompletionAndResetWriteStatus : Prop :=
  ∀ s t : State, step s = .next t → statusWord t ≠ statusWord s →
    (s.busy = false ∧ ∃ data rest w,
        (s.pending = .txn w :: rest ∨ ∃ we off d, s.pending = .port we off d :: rest ∧ w = txnOfPort we off d) ∧
        decodeTxn w = .wrCtrlStart data) ∨
    (s.busy = true ∧ s.atLastGroup = true ∧ (s.pending = [] ∧ s.fair = true ∨ ∃ rest, s.pending = .engine :: rest) ∧
        t.busy = false ∧ t.done = true) ∨
    (∃ rest, s.pending = .reset :: rest ∧ statusWord t = 0#32)

/-- While BUSY = 1 the configuration cannot change under the conversion: every step but a reset, the completing one
included, leaves the nine configuration registers as they are (10_state R38), and the memory recorded at the START
(log 18). -/
def Obligations.BusyFreezesConfiguration : Prop :=
  ∀ s t : State, step s = .next t → s.busy = true → (∀ rest, s.pending ≠ .reset :: rest) →
    t.mode = s.mode ∧ t.channels = s.channels ∧ t.cthr = s.cthr ∧ t.athr = s.athr ∧ t.width = s.width ∧
      t.height = s.height ∧ t.srcBase = s.srcBase ∧ t.srcLen = s.srcLen ∧ t.dstBase = s.dstBase ∧
      t.dstLen = s.dstLen ∧ t.startMem = s.startMem

/-- Only the engine's group step and the platform's own stores write memory: every byte that a step changes is the
group's byte, inside the DST region and while BUSY = 1, or the byte a store names. No transaction reaches the memory
space (20_memory R60, R66). And no step changes MEM_ADMITS, a parameter of the platform (00_scope R5, 20_memory R80): that
it is a field of the state is the model's choice (log 6). -/
def Obligations.OnlyEngineAndStoresChangeMemory : Prop :=
  ∀ s t : State, s.MemoryCanonical → s.ConversionLegal → s.CursorAligned → step s = .next t →
    (∀ a, t.mem.read a ≠ s.mem.read a →
      (s.busy = true ∧ s.inDst a = true ∧
        a = s.dstBase.toNat + (s.curY.toNat * (s.width.toNat / 8) + s.curXg.toNat / 8) ∧
        (s.pending = [] ∧ s.fair = true ∨ ∃ rest, s.pending = .engine :: rest)) ∨
      ∃ addr v rest, s.pending = .store addr v :: rest ∧ a = addr.toNat) ∧
    ((∀ rest, s.pending ≠ [] ∧ s.pending ≠ .engine :: rest) → t.traffic = s.traffic) ∧
    t.admits = s.admits

/-! ### The classifier -/

/-- The whole PCLS function, on every one of its inputs, in exact arithmetic (40_classifier R140; its sub-decisions
R132, R133 and its legality R134). -/
def Obligations.ClassifierIsTheWholeFunction : Prop :=
  ∀ (r g b a : Byte) (n mode : BitVec 3) (cthr : BitVec 10) (athr : BitVec 8),
    let cbit := decide (r.toNat + g.toNat + b.toNat > cthr.toNat)
    let abit := decide (a.toNat > athr.toNat)
    let ok := decide (mode.toNat ≤ 3 ∧ (n.toNat = 3 ∨ n.toNat = 4) ∧ (mode.toNat = 3 ∨ n.toNat = 4))
    pcls r g b a n mode cthr athr =
      { bit := if ok = false then false
               else if mode.toNat = 0 then cbit && abit
               else if mode.toNat = 1 then cbit || abit
               else if mode.toNat = 2 then abit
               else cbit
        ok := ok, cbit := cbit, abit := abit }

/-- The five MODE3 codes: with the code on the mode port of the test classifier, its outputs are those of the mode's
rule, and nothing else changes; codes 4 to 7 give OK = 0 and BIT = 0 (40_classifier R135 to R139). That a code on the
mode port is a step of the machine, whose outputs the record shows, is the model's choice (log 4). -/
def Obligations.ModeCodesDecideAsTheirRules : Prop :=
  ∀ s : State,
    let c := decide (pixelSum s.pixel > s.cthr.toNat)
    let a := decide ((pixelA s.pixel).toNat > s.athr.toNat)
    let rgba := decide (s.channels.toNat = 4)
    let either := decide (s.channels.toNat = 3 ∨ s.channels.toNat = 4)
    exec .modeColorAndAlpha s =
      .next { s with observed := .pclsPorts ⟨rgba && (c && a), rgba, c, a⟩ :: s.observed } ∧
    exec .modeColorOrAlpha s =
      .next { s with observed := .pclsPorts ⟨rgba && (c || a), rgba, c, a⟩ :: s.observed } ∧
    exec .modeOnlyAlpha s =
      .next { s with observed := .pclsPorts ⟨rgba && a, rgba, c, a⟩ :: s.observed } ∧
    exec .modeIgnoreAlpha s =
      .next { s with observed := .pclsPorts ⟨either && c, either, c, a⟩ :: s.observed } ∧
    ∀ code, exec (.modeInvalid code) s =
      .next { s with observed := .pclsPorts ⟨false, false, c, a⟩ :: s.observed }

/-- The level conversion loses nothing: for every real threshold in [0, 1], the decisions on the integer levels
floor(765*t) and floor(255*u) are the source's real comparisons, and the levels fit their registers; for the general
reason that an integer exceeds a real q >= 0 exactly where it exceeds floor(q) (40_classifier R131). -/
def Obligations.ThresholdLevelsLoseNothing : Prop :=
  (∀ (k : ℕ) (q : ℝ), 0 ≤ q → ((k : ℝ) > q ↔ k > ⌊q⌋₊)) ∧
  ∀ (t u : ℝ) (r g b a : Byte), 0 ≤ t → t ≤ 1 → 0 ≤ u → u ≤ 1 →
    ⌊765 * t⌋₊ ≤ 765 ∧ ⌊255 * u⌋₊ ≤ 255 ∧
    (colorBit r g b (BitVec.ofNat 10 ⌊765 * t⌋₊) = true ↔
      ((r.toNat + g.toNat + b.toNat : Nat) : ℝ) > 255 * 3 * t) ∧
    (alphaBit a (BitVec.ofNat 8 ⌊255 * u⌋₊) = true ↔ ((a.toNat : Nat) : ℝ) > 255 * u)

/-- Levels at or above the top of the source's range never fire: with CTHR.LEVEL of 765 or more every pixel has
CBIT = 0, and with ATHR.LEVEL = 255 every pixel has ABIT = 0, and no START check tests a level (40_classifier R142,
R132, R133). -/
def Obligations.TopLevelsNeverFire : Prop :=
  ∀ s : State,
    (765 ≤ s.cthr.toNat → ∀ r g b, colorBit r g b s.cthr = false) ∧
    (s.athr.toNat = 255 → ∀ a, alphaBit a s.athr = false) ∧
    ∀ c a, firstViolation { s with cthr := c, athr := a } = firstViolation s

/-! ### The engine -/

/-- The group step: while BUSY = 1, with its cursor at a group of a legal configuration, the regions apart and its
accesses admitted, the engine's turn writes one byte, at DST_BASE + y*(W/8) + xg/8, whose bit `pos` is the classified
bit of pixel (xg + pos, y); every other byte reads as before, and no register but the cursor and STATUS's BUSY and
DONE changes. The offset is (y*W + xg)/8 as well, and the address is below 2^32 (41_packer R184 to R187). -/
def Obligations.GroupStepPacksEightPixels : Prop :=
  ∀ s : State, s.MemoryCanonical → s.ConversionLegal → s.CursorAligned → s.busy = true →
    s.regionsOverlap = false → (∀ a ∈ s.stepAccesses, s.admitted a = true) →
    ∃ t, engineTurn s = .next t ∧
      (∀ pos, pos < 8 →
        (t.mem.read (s.dstBase.toNat + (s.curY.toNat * (s.width.toNat / 8) + s.curXg.toNat / 8))).getLsbD pos =
          imageBit s s.mem (s.curXg.toNat + pos) s.curY.toNat) ∧
      (∀ a, a ≠ s.dstBase.toNat + (s.curY.toNat * (s.width.toNat / 8) + s.curXg.toNat / 8) →
        t.mem.read a = s.mem.read a) ∧
      (s.curY.toNat * s.width.toNat + s.curXg.toNat) / 8 = s.curY.toNat * (s.width.toNat / 8) + s.curXg.toNat / 8 ∧
      s.dstBase.toNat + (s.curY.toNat * (s.width.toNat / 8) + s.curXg.toNat / 8) < 2 ^ 32 ∧
      t = { s with mem := t.mem, traffic := t.traffic, curY := t.curY, curXg := t.curXg, busy := t.busy,
                   done := t.done }

/-- The cursor goes through the groups in row-major order and never wraps: an enabled engine's turn moves it to the
next column of the row, or to the first of the next row, one group further. Where it stood at `y == H - 1` and
`xg + 8 == W`, which is group (W/8)*H - 1 and no other, the conversion completes: STATUS is 0x00000002 if it was
0x00000001, and the cursor is left at (H, 0); anywhere else STATUS stays (41_packer R188, R189). -/
def Obligations.GroupStepAdvancesRowMajor : Prop :=
  ∀ s : State, s.ConversionLegal → s.CursorAligned → s.busy = true →
    s.regionsOverlap = false → (∀ a ∈ s.stepAccesses, s.admitted a = true) →
    ∃ t, engineTurn s = .next t ∧
      (s.curXg.toNat + 8 < s.width.toNat → t.curXg.toNat = s.curXg.toNat + 8 ∧ t.curY = s.curY) ∧
      (¬ s.curXg.toNat + 8 < s.width.toNat → t.curXg = 0#16 ∧ t.curY.toNat = s.curY.toNat + 1) ∧
      (¬ (s.curY.toNat + 1 = s.height.toNat ∧ s.curXg.toNat + 8 = s.width.toNat) → statusWord t = statusWord s) ∧
      (s.curY.toNat + 1 = s.height.toNat ∧ s.curXg.toNat + 8 = s.width.toNat →
        t.busy = false ∧ t.done = true ∧ t.err = s.err ∧ t.errCode = s.errCode ∧ t.curY = s.height ∧ t.curXg = 0#16 ∧
          (statusWord s = 0x00000001#32 → statusWord t = 0x00000002#32)) ∧
      s.groupsDone = s.curY.toNat * (s.width.toNat / 8) + s.curXg.toNat / 8 ∧ t.groupsDone = s.groupsDone + 1 ∧
      s.groupsDone < s.width.toNat / 8 * s.height.toNat ∧
      (s.curY.toNat + 1 = s.height.toNat ∧ s.curXg.toNat + 8 = s.width.toNat ↔
        s.groupsDone + 1 = s.width.toNat / 8 * s.height.toNat)

/-- Every access of a group step is where the spec says: 8*n reads, all different and all in the SRC region, and one
write of the byte that then stands there, in the DST region (20_memory R66, R70). -/
def Obligations.GroupStepStaysInItsRegions : Prop :=
  ∀ s : State, s.MemoryCanonical → s.ConversionLegal → s.CursorAligned → s.busy = true →
    s.regionsOverlap = false → (∀ a ∈ s.stepAccesses, s.admitted a = true) →
    ∃ t access, engineTurn s = .next t ∧ t.traffic = access :: s.traffic ∧
      access.reads.length = 8 * s.channels.toNat ∧ access.reads.Nodup ∧
      (∀ a ∈ access.reads, s.inSrc a = true) ∧ s.inDst access.write = true ∧
      access.value = t.mem.read access.write

/-- With an access that is not admitted the engine has no step: it is stuck with BUSY = 1 for ever. Whatever is pending,
its turn changes nothing; every step but a reset leaves it stuck, with its cursor, STATUS and the memory port as they are;
so every run without a reset does, however the Host polls; and with nothing pending every run stays in the same state
(20_memory R80). That a stuck engine's turn leaves the state as it is is the model's form of it (log 7). -/
def Obligations.UnadmittedAccessLeavesEngineStuck : Prop :=
  ∀ s : State, s.Stuck →
    engineTurn s = .next s ∧
    (∀ t, step s = .next t → (∀ rest, s.pending ≠ .reset :: rest) →
      t.Stuck ∧ t.curY = s.curY ∧ t.curXg = s.curXg ∧ t.traffic = s.traffic ∧ statusWord t = statusWord s) ∧
    (∀ (k : Nat) (t : State), Event.reset ∉ s.pending → core.run k s = .next t →
      t.Stuck ∧ t.curY = s.curY ∧ t.curXg = s.curXg ∧ t.traffic = s.traffic ∧ statusWord t = statusWord s) ∧
    (s.pending = [] → ∀ k, core.run k s = .next s)

/-- With BUSY = 0 the engine has no enabled step, and the idle state survives indefinitely with all registers held, the
schedule fair or not (60_exceptions R273, 70_reset R292). That the turn of an engine with no enabled step leaves the state
as it is (log 7), and what happens on an empty list (log 2), are the model's. -/
def Obligations.IdleStateSurvives : Prop :=
  ∀ s : State, s.busy = false →
    engineTurn s = .next s ∧ (s.pending = [] → ∀ k, core.run k s = .next s)

/-- A conversion whose regions overlap is refused: its group step has no meaning, and nor has a racing load of one of
its DST bytes; and the steps that perform these are refused (20_memory R74). That the START itself is accepted, and that
the refusal comes with the first access, is the model's reading (log 8). -/
def Obligations.OverlappingConversionIsRefused : Prop :=
  ∀ s : State, s.busy = true → s.regionsOverlap = true →
    engineTurn s = .refused .overlappingRegions ∧
    (s.pending = [] → s.fair = true → step s = .refused .overlappingRegions) ∧
    (∀ rest, s.pending = .engine :: rest → step s = .refused .overlappingRegions) ∧
    ∀ addr : Word, s.inDst addr.toNat = true →
      platformLoad addr s = .refused .overlappingRegions ∧
        ∀ rest, s.pending = .load addr :: rest → step s = .refused .overlappingRegions

/-! ### The platform -/

/-- While BUSY = 1 a store to any byte of the SRC region or the DST region is refused; every other store is performed,
on that byte and no other, and nothing else changes (20_memory R73). That any master's store counts, and that a store
is performed at once, are the model's readings (logs 9 and 17). -/
def Obligations.StoresToBusyRegionsAreRefused : Prop :=
  ∀ (s : State) (addr : Word) (v : Byte) (rest : List Event), s.MemoryCanonical →
    s.pending = .store addr v :: rest →
    (s.busy = true ∧ (s.inSrc addr.toNat = true ∨ s.inDst addr.toNat = true) →
      step s = .refused .storeToBusyRegion) ∧
    (¬ (s.busy = true ∧ (s.inSrc addr.toNat = true ∨ s.inDst addr.toNat = true)) →
      ∃ t, step s = .next t ∧ t = { s with pending := rest, mem := t.mem } ∧ t.mem.read addr.toNat = v ∧
        ∀ a, a ≠ addr.toNat → t.mem.read a = s.mem.read a)

/-- A load of a DST byte while BUSY = 1 returns either the byte's value before the START or its final value, and no
other; which of the two is open, a free value (20_memory R72, log 10). What the final value is of a byte that a stuck
engine never writes is the model's choice (log 25). Any other load returns what memory holds (log 17), and no load changes
memory. -/
def Obligations.RacingLoadReturnsOldOrFinal : Prop :=
  ∀ (s : State) (addr : Word) (rest : List Event), s.pending = .load addr :: rest →
    (s.busy = true → s.inDst addr.toNat = true → s.regionsOverlap = false →
      ∃ t v, step s = .next t ∧ (∀ a, t.mem.read a = s.mem.read a) ∧ t.observed = .platformRead v :: s.observed ∧
        (v = s.startMem.read addr.toNat ∨
          ∀ pos, pos < 8 → v.getLsbD pos =
            imageBit s s.startMem (8 * ((addr.toNat - s.dstBase.toNat) % (s.width.toNat / 8)) + pos)
              ((addr.toNat - s.dstBase.toNat) / (s.width.toNat / 8)))) ∧
    (s.busy = false ∨ s.inDst addr.toNat = false →
      step s = .next { s with pending := rest,
                              observed := .platformRead (s.mem.read addr.toNat) :: s.observed })

/-- Reset: in every state, busy or not, the sixteen registers and the engine state take their reset values, and memory
is neither read nor written (70_reset R290, 10_state R42). -/
def Obligations.ResetSetsEveryRegister : Prop :=
  ∀ (s : State) (rest : List Event), s.pending = .reset :: rest →
    ∃ t, step s = .next t ∧
      allRegs.map (fun r => readReg r t) =
        [0x58424D31#32, 0#32, 0#32, 0x401#32, 0xE5#32, 0x33#32, 0#32, 0#32, 0#32, 0#32, 0#32, 0#32, 0#32, 0#32,
          0x00000002#32, 0#32] ∧
      t.busy = false ∧ t.done = false ∧ t.err = false ∧ t.errCode = 0#4 ∧ t.mode = 1#3 ∧ t.channels = 4#3 ∧
      t.curY = 0#16 ∧ t.curXg = 0#16 ∧ t.mem = s.mem ∧ t.traffic = s.traffic

/-- Reset during a conversion abandons it: STATUS becomes 0, and with `j` the number of group steps taken, which is
`groupsDone` and less than (W/8)*H, the DST bytes below `j` hold their final values and the others their values from
before the START (70_reset R291). -/
def Obligations.ResetLeavesDestinationPrefix : Prop :=
  ∀ (s : State) (rest : List Event), s.Good → s.busy = true → s.pending = .reset :: rest →
    ∃ t, step s = .next t ∧ statusWord t = 0#32 ∧ s.groupsDone < s.width.toNat / 8 * s.height.toNat ∧
      ∀ k, k < s.width.toNat / 8 * s.height.toNat →
        (s.groupsDone ≤ k → t.mem.read (s.dstBase.toNat + k) = s.startMem.read (s.dstBase.toNat + k)) ∧
        (k < s.groupsDone → ∀ pos, pos < 8 → (t.mem.read (s.dstBase.toNat + k)).getLsbD pos =
          imageBit s s.startMem (8 * (k % (s.width.toNat / 8)) + pos) (k / (s.width.toNat / 8)))

/-! ### Invariants that every step keeps -/

/-- The memory keeps its canonical form through every step, legal conversion or not. The form is the model's
(log 5). -/
def Obligations.StepKeepsMemoryCanonical : Prop :=
  ∀ s t : State, s.MemoryCanonical → step s = .next t → t.MemoryCanonical

/-- STATUS stays at one of its legal values through every step: 0, 1, 2, or 6 + (code << 8) for a code in 1 .. 10
(42_host_access R225). -/
def Obligations.StepKeepsStatusLegal : Prop :=
  ∀ s t : State, s.StatusLegal → step s = .next t → t.StatusLegal

/-- Through every step, whatever the Host, the Engine, the reset input and the platform do and in whatever order: the
cursor stays aligned and inside the image while BUSY = 1, the configuration stays one that passes every check, SRC
holds what it held at the START, and exactly the DST bytes of the groups taken hold their final values, each written
once, by the port accesses of those groups in order (10_state R38, R39, 20_memory R67, R70, R75, 70_reset R291). -/
def Obligations.StepKeepsConversionGood : Prop :=
  ∀ s t : State, s.MemoryCanonical → s.Good → step s = .next t → t.Good

/-- The state after reset meets the invariants, with nothing listed in memory. -/
def Obligations.ResetMeetsInvariants : Prop :=
  State.reset.MemoryCanonical ∧ State.reset.StatusLegal ∧ State.reset.Good

/-- From a good state no step faults: no address the engine computes is ever at or above 2^32 (20_memory R69; the fault is the model's, log 13). -/
def Obligations.GoodStateNeverFaults : Prop :=
  ∀ s : State, s.CursorAligned → s.ConversionLegal → ∀ r, step s ≠ .fault r

/-! ### Conversions -/

/-- When a conversion completes, every DST byte holds its final value before BUSY = 0 is seen: bit `x % 8` of byte
`y*(W/8) + x/8` is the classified bit of pixel (x, y) of the source as it stood at the START, whatever else happened in
between (20_memory R71, 41_packer R191). The memory at the START is the model's record of it (log 18). -/
def Obligations.CompletionShowsFinalBytes : Prop :=
  ∀ s t : State, s.MemoryCanonical → s.Good → step s = .next t → s.busy = true → t.busy = false → t.done = true →
    ∀ x y, x < s.width.toNat → y < s.height.toNat →
      (t.mem.read (s.dstBase.toNat + (y * (s.width.toNat / 8) + x / 8))).getLsbD (x % 8) = imageBit s s.startMem x y

/-- A started conversion with nothing else pending, and a weakly fair schedule, completes after exactly (W/8)*H group
steps: it is busy before the last of them, and then STATUS is 0x00000002, the cursor is (H, 0), every pixel's bit is in
its place, and every byte outside the DST region is as it was (70_reset R299, 41_packer R184 to R189). That a weakly fair
schedule gives the engine every turn when nothing is pending is the model's form of it (log 2). -/
def Obligations.StartedConversionCompletes : Prop :=
  ∀ s : State, s.MemoryCanonical → s.Startable → s.StartPending →
    let groups := s.width.toNat / 8 * s.height.toNat
    (∀ k, k < groups → ∃ u : State, core.run (1 + k) s = .next u ∧ statusWord u = 0x00000001#32) ∧
    ∃ t : State, core.run (1 + groups) s = .next t ∧ statusWord t = 0x00000002#32 ∧ t.curY = s.height ∧ t.curXg = 0#16 ∧
      (∀ x y, x < s.width.toNat → y < s.height.toNat →
        (t.mem.read (s.dstBase.toNat + (y * (s.width.toNat / 8) + x / 8))).getLsbD (x % 8) = imageBit s s.mem x y) ∧
      ∀ a, s.inDst a = false → t.mem.read a = s.mem.read a

/-- Termination under any interleaving: a conversion under way, with accesses admitted, a weakly fair schedule, and
whatever transactions, mode codes, loads, engine turns and stores outside its regions are pending, completes after exactly
the group steps that are left, one per group; STATUS is then 0x00000002, which the next STATUS read returns, so that a
`wait` loop ends there, and every pixel's bit is in its place (70_reset R299). The schedule is the model's (logs 1 and 2),
and so are the records of accesses and of the memory at the START (logs 11 and 18). -/
def Obligations.FairScheduleCompletes : Prop :=
  ∀ s : State, s.MemoryCanonical → s.Good → statusWord s = 0x00000001#32 → s.fair = true → s.regionsOverlap = false →
    (∀ a, s.inSrc a = true ∨ s.inDst a = true → s.admitted a = true) → s.Undisturbed →
    let groups := s.width.toNat / 8 * s.height.toNat
    ∃ (k : Nat) (t : State) (accesses : List GroupAccess), core.run k s = .next t ∧
      k ≤ s.pending.length + (groups - s.groupsDone) ∧
      t.traffic = accesses ++ s.traffic ∧ s.groupsDone + accesses.length = groups ∧
      statusWord t = 0x00000002#32 ∧ t.curY = s.height ∧ t.curXg = 0#16 ∧
      exec .rdStatus t = .next { t with observed := .hostRead 0x00000002#32 :: t.observed } ∧
      ∀ x y, x < s.width.toNat → y < s.height.toNat →
        (t.mem.read (s.dstBase.toNat + (y * (s.width.toNat / 8) + x / 8))).getLsbD (x % 8) = imageBit s s.startMem x y

/-- Without fairness the engine may never complete, and `wait` never ends: under an unfair schedule, however many STATUS
polls are pending, each reads the same BUSY = 1, and no run of any length after them changes anything (70_reset R299).
The schedule is the model's (log 2). -/
def Obligations.UnfairScheduleNeverCompletes : Prop :=
  ∀ (s : State) (polls : Nat), s.busy = true → s.fair = false →
    s.pending = List.replicate polls (.txn 0x0200000000#37) →
    (statusWord s).getLsbD 0 = true ∧
    ∀ k, core.run (polls + k) s =
      .next { s with pending := [],
                     observed := List.replicate polls (.hostRead (statusWord s)) ++ s.observed }

/-- The end of a run: the host has no transaction to come and BUSY = 0. From there every step that is no reset and no
store of platform memory leaves what is observed as it is, the sixteen register values and the platform memory; and the
run stays ended through every step, a reset or a store included (70_reset R300). Which events are the host's transactions
is the model's reading (log 24), and so is the list of events (log 1). -/
def Obligations.EndedRunKeepsObservation : Prop :=
  ∀ s t : State, s.RunEnded → step s = .next t →
    t.RunEnded ∧
      ((∀ rest, s.pending ≠ .reset :: rest) → (∀ addr v rest, s.pending ≠ .store addr v :: rest) →
        allRegs.map (fun r => readReg r t) = allRegs.map (fun r => readReg r s) ∧ t.mem = s.mem ∧
          t.observation = s.observation)

/-- A conversion accesses exactly its regions: over its group steps the memory port reads every byte of the SRC region
once, the A bytes among them, writes every byte of the DST region once, in ascending order, and touches nothing else
(20_memory R67). The record of accesses is the model's (log 11), and so is that the engine has every turn of a weakly fair
schedule when nothing is pending (log 2). -/
def Obligations.ConversionAccessesEachByteOnce : Prop :=
  ∀ s : State, s.MemoryCanonical → s.Startable → s.StartPending →
    let groups := s.width.toNat / 8 * s.height.toNat
    ∃ (t : State) (accesses : List GroupAccess), core.run (1 + groups) s = .next t ∧ t.traffic = accesses ++ s.traffic ∧
      (accesses.flatMap GroupAccess.reads).Perm
        (List.range' s.srcBase.toNat (s.width.toNat * s.height.toNat * s.channels.toNat)) ∧
      (accesses.reverse.map GroupAccess.write) = List.range' s.dstBase.toNat groups

/-- Determinism: two conversions with equal source bytes, dimensions, channel count, mode and levels write
byte-identical packed bitmaps, wherever their regions lie and whatever else differs (41_packer R191). That both runs
complete rests on the model's weakly fair schedule (log 2). -/
def Obligations.EqualInputsGiveEqualBitmaps : Prop :=
  ∀ s s' : State, s.MemoryCanonical → s'.MemoryCanonical → s.Startable → s'.Startable → s.StartPending →
    s'.StartPending → s.width = s'.width → s.height = s'.height → s.channels = s'.channels → s.mode = s'.mode →
    s.cthr = s'.cthr → s.athr = s'.athr →
    (∀ i, i < s.width.toNat * s.height.toNat * s.channels.toNat →
      s.mem.read (s.srcBase.toNat + i) = s'.mem.read (s'.srcBase.toNat + i)) →
    let groups := s.width.toNat / 8 * s.height.toNat
    ∃ t t' : State, core.run (1 + groups) s = .next t ∧ core.run (1 + groups) s' = .next t' ∧
      ∀ k, k < groups → t.mem.read (s.dstBase.toNat + k) = t'.mem.read (s'.dstBase.toNat + k)

/-- A conversion cannot be disturbed from the host port: with a transaction, busy or not, other than an accepted START,
the engine's next turn does to memory and to the cursor what it would have done without it (42_host_access R220,
00_scope R6). -/
def Obligations.TransactionsDoNotDisturbConversion : Prop :=
  ∀ (i : Instr) (s t u : State), s.busy = true → exec i s = .next t → engineTurn s = .next u →
    ∃ v, engineTurn t = .next v ∧ v.mem = u.mem ∧ v.curY = u.curY ∧ v.curXg = u.curXg ∧ v.traffic = u.traffic ∧
      statusWord v = statusWord u

/-- The pseudo-instructions expand to the transactions of 30_encoding R104, whose words 95_test_vectors writes out:
`policy ignore_alpha, 3, clev(0.3), alev(0.2)`, `dims`, `src`, `dst`, `start`, `classify` and `wait`. -/
def Obligations.PseudoInstructionsExpandToWords : Prop :=
  (expand (.policy 3 3 (clev 3 10) (alev 2 10))).map encode =
      [.txn37 0x1300000303#37, .txn37 0x14000000E5#37, .txn37 0x1500000033#37] ∧
    (expand (.dims 8 8)).map encode = [.txn37 0x1600000008#37, .txn37 0x1700000008#37] ∧
    (expand (.src 0x1000 192)).map encode = [.txn37 0x1800001000#37, .txn37 0x19000000C0#37] ∧
    (expand (.dst 0x2000 8)).map encode = [.txn37 0x1A00002000#37, .txn37 0x1B00000008#37] ∧
    (expand .start).map encode = [.txn37 0x1100000001#37] ∧
    (expand (.classify 255 0 0 255)).map encode = [.txn37 0x1DFF0000FF#37, .txn37 0x0E00000000#37] ∧
    ∀ k, (expand (.wait k)).map encode = List.replicate (k + 1) (.txn37 0x0200000000#37)
end

