-- ==== Sys2Proof/Laws/Memory.lean ====
section
/-! SUPPORT. The laws of memory: a read after a write, and the canonical form. -/

namespace Sys2Proof.Machine

/-- What the canonical form says of a non-empty memory. -/
theorem wfFrom_cons {lo c : Nat} {u : Byte} {m : Memory} :
    Memory.wfFrom lo ((c, u) :: m) = true ↔
      lo ≤ c ∧ c < Config.addressSpaceSize ∧ u ≠ Memory.unlisted ∧ Memory.wfFrom (c + 1) m = true := by
  simp only [Memory.wfFrom, Bool.and_eq_true, decide_eq_true_eq, and_assoc]

theorem wfFrom_weaken {m : Memory} {lo hi : Nat} (h : lo ≤ hi) (hm : m.wfFrom hi = true) : m.wfFrom lo = true := by
  cases m with
  | nil => rfl
  | cons c m =>
    rw [wfFrom_cons] at hm ⊢
    exact ⟨h.trans hm.1, hm.2⟩

/-- An address under every listed one is unlisted. -/
theorem read_below {m : Memory} {lo a : Nat} (hm : m.wfFrom lo = true) (ha : a < lo) : m.read a = Memory.unlisted := by
  induction m generalizing lo with
  | nil => rfl
  | cons c m ih =>
    rw [wfFrom_cons] at hm
    rw [Memory.read, if_neg (by omega), ih hm.2.2.2 (by omega)]

/-- A read sees the last write to its address, and no other write. -/
theorem read_write {m : Memory} {lo : Nat} (hm : m.wfFrom lo = true) (a b : Nat) (v : Byte) :
    (m.write a v).read b = if b = a then v else m.read b := by
  induction m generalizing lo with
  | nil =>
    by_cases hv : v = Memory.unlisted <;> by_cases hb : b = a <;> simp [Memory.write, Memory.read, hv, hb]
  | cons c m ih =>
    obtain ⟨c, u⟩ := c
    rw [wfFrom_cons] at hm
    obtain ⟨-, -, -, hm⟩ := hm
    rcases lt_trichotomy a c with h | h | h
    · by_cases hv : v = Memory.unlisted <;> by_cases hb : b = a <;>
        simp [Memory.write, Memory.read, h, hv, hb, show a ≠ c by omega, read_below hm (show a < c + 1 by omega)]
    · subst h
      by_cases hv : v = Memory.unlisted <;> by_cases hb : b = a <;>
        simp [Memory.write, Memory.read, hv, hb, read_below hm (Nat.lt_succ_self a)]
    · by_cases hb : b = c
      · simp [Memory.write, Memory.read, hb, show ¬ a < c by omega, show ¬ a = c by omega, show ¬ c = a by omega]
      · simp [Memory.write, Memory.read, hb, show ¬ a < c by omega, show ¬ a = c by omega, ih hm]

@[simp] theorem read_write_same {m : Memory} (h : m.wf = true) (a : Nat) (v : Byte) : (m.write a v).read a = v := by
  rw [read_write h, if_pos rfl]

theorem read_write_other {m : Memory} (h : m.wf = true) {a b : Nat} (hab : b ≠ a) (v : Byte) :
    (m.write a v).read b = m.read b := by
  rw [read_write h, if_neg hab]

/-- A write below 2^32 keeps the canonical form from any lower bound at or under its address. -/
theorem wfFrom_write {m : Memory} {lo a : Nat} (hm : m.wfFrom lo = true) (hlo : lo ≤ a)
    (ha : a < Config.addressSpaceSize) (v : Byte) : (m.write a v).wfFrom lo = true := by
  induction m generalizing lo with
  | nil => by_cases hv : v = Memory.unlisted <;> simp [Memory.write, Memory.wfFrom, hv, hlo, ha]
  | cons c m ih =>
    obtain ⟨c, u⟩ := c
    have hc := hm
    rw [wfFrom_cons] at hc
    obtain ⟨h1, h2, h3, h4⟩ := hc
    rcases lt_trichotomy a c with h | h | h
    · by_cases hv : v = Memory.unlisted
      · simpa [Memory.write, h, hv] using hm
      · simp [Memory.write, h, hv, wfFrom_cons, hlo, ha, h2, h3, h4]
    · subst h
      by_cases hv : v = Memory.unlisted
      · simpa [Memory.write, hv] using wfFrom_weaken (by omega) h4
      · simp [Memory.write, hv, wfFrom_cons, hlo, ha, h4]
    · simp [Memory.write, show ¬ a < c by omega, show ¬ a = c by omega, wfFrom_cons, h1, h2, h3, ih h4 h]

/-- Every write below 2^32 keeps the canonical form; a read changes nothing. -/
theorem wf_write {m : Memory} {a : Nat} (h : m.wf = true) (ha : a < Config.addressSpaceSize) (v : Byte) :
    (m.write a v).wf = true := wfFrom_write h (Nat.zero_le a) ha v

/-- Canonical memories that read the same everywhere are the same list. -/
theorem eq_of_read_eq {m k : Memory} {lo : Nat} (hm : m.wfFrom lo = true) (hk : k.wfFrom lo = true)
    (h : ∀ a, m.read a = k.read a) : m = k := by
  induction m generalizing k lo with
  | nil =>
    cases k with
    | nil => rfl
    | cons d k =>
      have hd := h d.1
      simp only [Memory.read, if_true] at hd
      exact absurd hd.symm (wfFrom_cons.mp hk).2.2.1
  | cons c m ih =>
    have hc := wfFrom_cons.mp hm
    cases k with
    | nil =>
      have hd := h c.1
      simp only [Memory.read, if_true] at hd
      exact absurd hd hc.2.2.1
    | cons d k =>
      have hd := wfFrom_cons.mp hk
      have first : c.1 = d.1 := by
        rcases lt_trichotomy c.1 d.1 with hlt | heq | hlt
        · have := h c.1
          rw [read_below (wfFrom_cons.mpr ⟨le_refl _, hd.2⟩) hlt] at this
          simp only [Memory.read, if_true] at this
          exact absurd this hc.2.2.1
        · exact heq
        · have := h d.1
          rw [read_below (wfFrom_cons.mpr ⟨le_refl _, hc.2⟩) hlt] at this
          simp only [Memory.read, if_true] at this
          exact absurd this.symm hd.2.2.1
      obtain ⟨c, u⟩ := c
      obtain ⟨d, x⟩ := d
      obtain rfl : c = d := first
      have value : u = x := by simpa [Memory.read] using h c
      have rest : m = k := by
        refine ih hc.2.2.2 hd.2.2.2 fun a => ?_
        by_cases ha : a = c
        · subst ha
          rw [read_below hc.2.2.2 (Nat.lt_succ_self a), read_below hd.2.2.2 (Nat.lt_succ_self a)]
        · simpa [Memory.read, ha] using h a
      rw [value, rest]

/-- Reset's memory has the canonical form. -/
theorem wf_reset : State.reset.mem.wf = true := rfl

end Sys2Proof.Machine
end

