-- ==== Sys2Proof/Laws/State.lean ====
section
/-! SUPPORT. One lemma per field per update of the state: what each update leaves, and what it writes. No later proof
unfolds a record update. -/

namespace Sys2Proof.Machine

/-! ### withPending -/

@[simp] theorem withPending_busy (s : State) (rest : List Event) : (s.withPending rest).busy = s.busy := rfl
@[simp] theorem withPending_done (s : State) (rest : List Event) : (s.withPending rest).done = s.done := rfl
@[simp] theorem withPending_err (s : State) (rest : List Event) : (s.withPending rest).err = s.err := rfl
@[simp] theorem withPending_errCode (s : State) (rest : List Event) : (s.withPending rest).errCode = s.errCode := rfl
@[simp] theorem withPending_mode (s : State) (rest : List Event) : (s.withPending rest).mode = s.mode := rfl
@[simp] theorem withPending_channels (s : State) (rest : List Event) : (s.withPending rest).channels = s.channels := rfl
@[simp] theorem withPending_cthr (s : State) (rest : List Event) : (s.withPending rest).cthr = s.cthr := rfl
@[simp] theorem withPending_athr (s : State) (rest : List Event) : (s.withPending rest).athr = s.athr := rfl
@[simp] theorem withPending_width (s : State) (rest : List Event) : (s.withPending rest).width = s.width := rfl
@[simp] theorem withPending_height (s : State) (rest : List Event) : (s.withPending rest).height = s.height := rfl
@[simp] theorem withPending_srcBase (s : State) (rest : List Event) : (s.withPending rest).srcBase = s.srcBase := rfl
@[simp] theorem withPending_srcLen (s : State) (rest : List Event) : (s.withPending rest).srcLen = s.srcLen := rfl
@[simp] theorem withPending_dstBase (s : State) (rest : List Event) : (s.withPending rest).dstBase = s.dstBase := rfl
@[simp] theorem withPending_dstLen (s : State) (rest : List Event) : (s.withPending rest).dstLen = s.dstLen := rfl
@[simp] theorem withPending_pixel (s : State) (rest : List Event) : (s.withPending rest).pixel = s.pixel := rfl
@[simp] theorem withPending_curY (s : State) (rest : List Event) : (s.withPending rest).curY = s.curY := rfl
@[simp] theorem withPending_curXg (s : State) (rest : List Event) : (s.withPending rest).curXg = s.curXg := rfl
@[simp] theorem withPending_mem (s : State) (rest : List Event) : (s.withPending rest).mem = s.mem := rfl
@[simp] theorem withPending_admits (s : State) (rest : List Event) : (s.withPending rest).admits = s.admits := rfl
@[simp] theorem withPending_startMem (s : State) (rest : List Event) : (s.withPending rest).startMem = s.startMem := rfl
@[simp] theorem withPending_traffic (s : State) (rest : List Event) : (s.withPending rest).traffic = s.traffic := rfl
@[simp] theorem withPending_raceCount (s : State) (rest : List Event) : (s.withPending rest).raceCount = s.raceCount := rfl
@[simp] theorem withPending_observed (s : State) (rest : List Event) : (s.withPending rest).observed = s.observed := rfl
@[simp] theorem withPending_pending (s : State) (rest : List Event) : (s.withPending rest).pending = rest := rfl
@[simp] theorem withPending_fair (s : State) (rest : List Event) : (s.withPending rest).fair = s.fair := rfl

/-! ### observe -/

@[simp] theorem observe_busy (s : State) (o : Output) : (s.observe o).busy = s.busy := rfl
@[simp] theorem observe_done (s : State) (o : Output) : (s.observe o).done = s.done := rfl
@[simp] theorem observe_err (s : State) (o : Output) : (s.observe o).err = s.err := rfl
@[simp] theorem observe_errCode (s : State) (o : Output) : (s.observe o).errCode = s.errCode := rfl
@[simp] theorem observe_mode (s : State) (o : Output) : (s.observe o).mode = s.mode := rfl
@[simp] theorem observe_channels (s : State) (o : Output) : (s.observe o).channels = s.channels := rfl
@[simp] theorem observe_cthr (s : State) (o : Output) : (s.observe o).cthr = s.cthr := rfl
@[simp] theorem observe_athr (s : State) (o : Output) : (s.observe o).athr = s.athr := rfl
@[simp] theorem observe_width (s : State) (o : Output) : (s.observe o).width = s.width := rfl
@[simp] theorem observe_height (s : State) (o : Output) : (s.observe o).height = s.height := rfl
@[simp] theorem observe_srcBase (s : State) (o : Output) : (s.observe o).srcBase = s.srcBase := rfl
@[simp] theorem observe_srcLen (s : State) (o : Output) : (s.observe o).srcLen = s.srcLen := rfl
@[simp] theorem observe_dstBase (s : State) (o : Output) : (s.observe o).dstBase = s.dstBase := rfl
@[simp] theorem observe_dstLen (s : State) (o : Output) : (s.observe o).dstLen = s.dstLen := rfl
@[simp] theorem observe_pixel (s : State) (o : Output) : (s.observe o).pixel = s.pixel := rfl
@[simp] theorem observe_curY (s : State) (o : Output) : (s.observe o).curY = s.curY := rfl
@[simp] theorem observe_curXg (s : State) (o : Output) : (s.observe o).curXg = s.curXg := rfl
@[simp] theorem observe_mem (s : State) (o : Output) : (s.observe o).mem = s.mem := rfl
@[simp] theorem observe_admits (s : State) (o : Output) : (s.observe o).admits = s.admits := rfl
@[simp] theorem observe_startMem (s : State) (o : Output) : (s.observe o).startMem = s.startMem := rfl
@[simp] theorem observe_traffic (s : State) (o : Output) : (s.observe o).traffic = s.traffic := rfl
@[simp] theorem observe_raceCount (s : State) (o : Output) : (s.observe o).raceCount = s.raceCount := rfl
@[simp] theorem observe_observed (s : State) (o : Output) : (s.observe o).observed = o :: s.observed := rfl
@[simp] theorem observe_pending (s : State) (o : Output) : (s.observe o).pending = s.pending := rfl
@[simp] theorem observe_fair (s : State) (o : Output) : (s.observe o).fair = s.fair := rfl

/-! ### setCfg -/

@[simp] theorem setCfg_busy (s : State) (d : Word) : (s.setCfg d).busy = s.busy := rfl
@[simp] theorem setCfg_done (s : State) (d : Word) : (s.setCfg d).done = s.done := rfl
@[simp] theorem setCfg_err (s : State) (d : Word) : (s.setCfg d).err = s.err := rfl
@[simp] theorem setCfg_errCode (s : State) (d : Word) : (s.setCfg d).errCode = s.errCode := rfl
@[simp] theorem setCfg_mode (s : State) (d : Word) : (s.setCfg d).mode = dataMode d := rfl
@[simp] theorem setCfg_channels (s : State) (d : Word) : (s.setCfg d).channels = dataChannels d := rfl
@[simp] theorem setCfg_cthr (s : State) (d : Word) : (s.setCfg d).cthr = s.cthr := rfl
@[simp] theorem setCfg_athr (s : State) (d : Word) : (s.setCfg d).athr = s.athr := rfl
@[simp] theorem setCfg_width (s : State) (d : Word) : (s.setCfg d).width = s.width := rfl
@[simp] theorem setCfg_height (s : State) (d : Word) : (s.setCfg d).height = s.height := rfl
@[simp] theorem setCfg_srcBase (s : State) (d : Word) : (s.setCfg d).srcBase = s.srcBase := rfl
@[simp] theorem setCfg_srcLen (s : State) (d : Word) : (s.setCfg d).srcLen = s.srcLen := rfl
@[simp] theorem setCfg_dstBase (s : State) (d : Word) : (s.setCfg d).dstBase = s.dstBase := rfl
@[simp] theorem setCfg_dstLen (s : State) (d : Word) : (s.setCfg d).dstLen = s.dstLen := rfl
@[simp] theorem setCfg_pixel (s : State) (d : Word) : (s.setCfg d).pixel = s.pixel := rfl
@[simp] theorem setCfg_curY (s : State) (d : Word) : (s.setCfg d).curY = s.curY := rfl
@[simp] theorem setCfg_curXg (s : State) (d : Word) : (s.setCfg d).curXg = s.curXg := rfl
@[simp] theorem setCfg_mem (s : State) (d : Word) : (s.setCfg d).mem = s.mem := rfl
@[simp] theorem setCfg_admits (s : State) (d : Word) : (s.setCfg d).admits = s.admits := rfl
@[simp] theorem setCfg_startMem (s : State) (d : Word) : (s.setCfg d).startMem = s.startMem := rfl
@[simp] theorem setCfg_traffic (s : State) (d : Word) : (s.setCfg d).traffic = s.traffic := rfl
@[simp] theorem setCfg_raceCount (s : State) (d : Word) : (s.setCfg d).raceCount = s.raceCount := rfl
@[simp] theorem setCfg_observed (s : State) (d : Word) : (s.setCfg d).observed = s.observed := rfl
@[simp] theorem setCfg_pending (s : State) (d : Word) : (s.setCfg d).pending = s.pending := rfl
@[simp] theorem setCfg_fair (s : State) (d : Word) : (s.setCfg d).fair = s.fair := rfl

/-! ### setCthr -/

@[simp] theorem setCthr_busy (s : State) (d : Word) : (s.setCthr d).busy = s.busy := rfl
@[simp] theorem setCthr_done (s : State) (d : Word) : (s.setCthr d).done = s.done := rfl
@[simp] theorem setCthr_err (s : State) (d : Word) : (s.setCthr d).err = s.err := rfl
@[simp] theorem setCthr_errCode (s : State) (d : Word) : (s.setCthr d).errCode = s.errCode := rfl
@[simp] theorem setCthr_mode (s : State) (d : Word) : (s.setCthr d).mode = s.mode := rfl
@[simp] theorem setCthr_channels (s : State) (d : Word) : (s.setCthr d).channels = s.channels := rfl
@[simp] theorem setCthr_cthr (s : State) (d : Word) : (s.setCthr d).cthr = dataCthr d := rfl
@[simp] theorem setCthr_athr (s : State) (d : Word) : (s.setCthr d).athr = s.athr := rfl
@[simp] theorem setCthr_width (s : State) (d : Word) : (s.setCthr d).width = s.width := rfl
@[simp] theorem setCthr_height (s : State) (d : Word) : (s.setCthr d).height = s.height := rfl
@[simp] theorem setCthr_srcBase (s : State) (d : Word) : (s.setCthr d).srcBase = s.srcBase := rfl
@[simp] theorem setCthr_srcLen (s : State) (d : Word) : (s.setCthr d).srcLen = s.srcLen := rfl
@[simp] theorem setCthr_dstBase (s : State) (d : Word) : (s.setCthr d).dstBase = s.dstBase := rfl
@[simp] theorem setCthr_dstLen (s : State) (d : Word) : (s.setCthr d).dstLen = s.dstLen := rfl
@[simp] theorem setCthr_pixel (s : State) (d : Word) : (s.setCthr d).pixel = s.pixel := rfl
@[simp] theorem setCthr_curY (s : State) (d : Word) : (s.setCthr d).curY = s.curY := rfl
@[simp] theorem setCthr_curXg (s : State) (d : Word) : (s.setCthr d).curXg = s.curXg := rfl
@[simp] theorem setCthr_mem (s : State) (d : Word) : (s.setCthr d).mem = s.mem := rfl
@[simp] theorem setCthr_admits (s : State) (d : Word) : (s.setCthr d).admits = s.admits := rfl
@[simp] theorem setCthr_startMem (s : State) (d : Word) : (s.setCthr d).startMem = s.startMem := rfl
@[simp] theorem setCthr_traffic (s : State) (d : Word) : (s.setCthr d).traffic = s.traffic := rfl
@[simp] theorem setCthr_raceCount (s : State) (d : Word) : (s.setCthr d).raceCount = s.raceCount := rfl
@[simp] theorem setCthr_observed (s : State) (d : Word) : (s.setCthr d).observed = s.observed := rfl
@[simp] theorem setCthr_pending (s : State) (d : Word) : (s.setCthr d).pending = s.pending := rfl
@[simp] theorem setCthr_fair (s : State) (d : Word) : (s.setCthr d).fair = s.fair := rfl

/-! ### setAthr -/

@[simp] theorem setAthr_busy (s : State) (d : Word) : (s.setAthr d).busy = s.busy := rfl
@[simp] theorem setAthr_done (s : State) (d : Word) : (s.setAthr d).done = s.done := rfl
@[simp] theorem setAthr_err (s : State) (d : Word) : (s.setAthr d).err = s.err := rfl
@[simp] theorem setAthr_errCode (s : State) (d : Word) : (s.setAthr d).errCode = s.errCode := rfl
@[simp] theorem setAthr_mode (s : State) (d : Word) : (s.setAthr d).mode = s.mode := rfl
@[simp] theorem setAthr_channels (s : State) (d : Word) : (s.setAthr d).channels = s.channels := rfl
@[simp] theorem setAthr_cthr (s : State) (d : Word) : (s.setAthr d).cthr = s.cthr := rfl
@[simp] theorem setAthr_athr (s : State) (d : Word) : (s.setAthr d).athr = dataAthr d := rfl
@[simp] theorem setAthr_width (s : State) (d : Word) : (s.setAthr d).width = s.width := rfl
@[simp] theorem setAthr_height (s : State) (d : Word) : (s.setAthr d).height = s.height := rfl
@[simp] theorem setAthr_srcBase (s : State) (d : Word) : (s.setAthr d).srcBase = s.srcBase := rfl
@[simp] theorem setAthr_srcLen (s : State) (d : Word) : (s.setAthr d).srcLen = s.srcLen := rfl
@[simp] theorem setAthr_dstBase (s : State) (d : Word) : (s.setAthr d).dstBase = s.dstBase := rfl
@[simp] theorem setAthr_dstLen (s : State) (d : Word) : (s.setAthr d).dstLen = s.dstLen := rfl
@[simp] theorem setAthr_pixel (s : State) (d : Word) : (s.setAthr d).pixel = s.pixel := rfl
@[simp] theorem setAthr_curY (s : State) (d : Word) : (s.setAthr d).curY = s.curY := rfl
@[simp] theorem setAthr_curXg (s : State) (d : Word) : (s.setAthr d).curXg = s.curXg := rfl
@[simp] theorem setAthr_mem (s : State) (d : Word) : (s.setAthr d).mem = s.mem := rfl
@[simp] theorem setAthr_admits (s : State) (d : Word) : (s.setAthr d).admits = s.admits := rfl
@[simp] theorem setAthr_startMem (s : State) (d : Word) : (s.setAthr d).startMem = s.startMem := rfl
@[simp] theorem setAthr_traffic (s : State) (d : Word) : (s.setAthr d).traffic = s.traffic := rfl
@[simp] theorem setAthr_raceCount (s : State) (d : Word) : (s.setAthr d).raceCount = s.raceCount := rfl
@[simp] theorem setAthr_observed (s : State) (d : Word) : (s.setAthr d).observed = s.observed := rfl
@[simp] theorem setAthr_pending (s : State) (d : Word) : (s.setAthr d).pending = s.pending := rfl
@[simp] theorem setAthr_fair (s : State) (d : Word) : (s.setAthr d).fair = s.fair := rfl

/-! ### setWidth -/

@[simp] theorem setWidth_busy (s : State) (d : Word) : (s.setWidth d).busy = s.busy := rfl
@[simp] theorem setWidth_done (s : State) (d : Word) : (s.setWidth d).done = s.done := rfl
@[simp] theorem setWidth_err (s : State) (d : Word) : (s.setWidth d).err = s.err := rfl
@[simp] theorem setWidth_errCode (s : State) (d : Word) : (s.setWidth d).errCode = s.errCode := rfl
@[simp] theorem setWidth_mode (s : State) (d : Word) : (s.setWidth d).mode = s.mode := rfl
@[simp] theorem setWidth_channels (s : State) (d : Word) : (s.setWidth d).channels = s.channels := rfl
@[simp] theorem setWidth_cthr (s : State) (d : Word) : (s.setWidth d).cthr = s.cthr := rfl
@[simp] theorem setWidth_athr (s : State) (d : Word) : (s.setWidth d).athr = s.athr := rfl
@[simp] theorem setWidth_width (s : State) (d : Word) : (s.setWidth d).width = dataDim d := rfl
@[simp] theorem setWidth_height (s : State) (d : Word) : (s.setWidth d).height = s.height := rfl
@[simp] theorem setWidth_srcBase (s : State) (d : Word) : (s.setWidth d).srcBase = s.srcBase := rfl
@[simp] theorem setWidth_srcLen (s : State) (d : Word) : (s.setWidth d).srcLen = s.srcLen := rfl
@[simp] theorem setWidth_dstBase (s : State) (d : Word) : (s.setWidth d).dstBase = s.dstBase := rfl
@[simp] theorem setWidth_dstLen (s : State) (d : Word) : (s.setWidth d).dstLen = s.dstLen := rfl
@[simp] theorem setWidth_pixel (s : State) (d : Word) : (s.setWidth d).pixel = s.pixel := rfl
@[simp] theorem setWidth_curY (s : State) (d : Word) : (s.setWidth d).curY = s.curY := rfl
@[simp] theorem setWidth_curXg (s : State) (d : Word) : (s.setWidth d).curXg = s.curXg := rfl
@[simp] theorem setWidth_mem (s : State) (d : Word) : (s.setWidth d).mem = s.mem := rfl
@[simp] theorem setWidth_admits (s : State) (d : Word) : (s.setWidth d).admits = s.admits := rfl
@[simp] theorem setWidth_startMem (s : State) (d : Word) : (s.setWidth d).startMem = s.startMem := rfl
@[simp] theorem setWidth_traffic (s : State) (d : Word) : (s.setWidth d).traffic = s.traffic := rfl
@[simp] theorem setWidth_raceCount (s : State) (d : Word) : (s.setWidth d).raceCount = s.raceCount := rfl
@[simp] theorem setWidth_observed (s : State) (d : Word) : (s.setWidth d).observed = s.observed := rfl
@[simp] theorem setWidth_pending (s : State) (d : Word) : (s.setWidth d).pending = s.pending := rfl
@[simp] theorem setWidth_fair (s : State) (d : Word) : (s.setWidth d).fair = s.fair := rfl

/-! ### setHeight -/

@[simp] theorem setHeight_busy (s : State) (d : Word) : (s.setHeight d).busy = s.busy := rfl
@[simp] theorem setHeight_done (s : State) (d : Word) : (s.setHeight d).done = s.done := rfl
@[simp] theorem setHeight_err (s : State) (d : Word) : (s.setHeight d).err = s.err := rfl
@[simp] theorem setHeight_errCode (s : State) (d : Word) : (s.setHeight d).errCode = s.errCode := rfl
@[simp] theorem setHeight_mode (s : State) (d : Word) : (s.setHeight d).mode = s.mode := rfl
@[simp] theorem setHeight_channels (s : State) (d : Word) : (s.setHeight d).channels = s.channels := rfl
@[simp] theorem setHeight_cthr (s : State) (d : Word) : (s.setHeight d).cthr = s.cthr := rfl
@[simp] theorem setHeight_athr (s : State) (d : Word) : (s.setHeight d).athr = s.athr := rfl
@[simp] theorem setHeight_width (s : State) (d : Word) : (s.setHeight d).width = s.width := rfl
@[simp] theorem setHeight_height (s : State) (d : Word) : (s.setHeight d).height = dataDim d := rfl
@[simp] theorem setHeight_srcBase (s : State) (d : Word) : (s.setHeight d).srcBase = s.srcBase := rfl
@[simp] theorem setHeight_srcLen (s : State) (d : Word) : (s.setHeight d).srcLen = s.srcLen := rfl
@[simp] theorem setHeight_dstBase (s : State) (d : Word) : (s.setHeight d).dstBase = s.dstBase := rfl
@[simp] theorem setHeight_dstLen (s : State) (d : Word) : (s.setHeight d).dstLen = s.dstLen := rfl
@[simp] theorem setHeight_pixel (s : State) (d : Word) : (s.setHeight d).pixel = s.pixel := rfl
@[simp] theorem setHeight_curY (s : State) (d : Word) : (s.setHeight d).curY = s.curY := rfl
@[simp] theorem setHeight_curXg (s : State) (d : Word) : (s.setHeight d).curXg = s.curXg := rfl
@[simp] theorem setHeight_mem (s : State) (d : Word) : (s.setHeight d).mem = s.mem := rfl
@[simp] theorem setHeight_admits (s : State) (d : Word) : (s.setHeight d).admits = s.admits := rfl
@[simp] theorem setHeight_startMem (s : State) (d : Word) : (s.setHeight d).startMem = s.startMem := rfl
@[simp] theorem setHeight_traffic (s : State) (d : Word) : (s.setHeight d).traffic = s.traffic := rfl
@[simp] theorem setHeight_raceCount (s : State) (d : Word) : (s.setHeight d).raceCount = s.raceCount := rfl
@[simp] theorem setHeight_observed (s : State) (d : Word) : (s.setHeight d).observed = s.observed := rfl
@[simp] theorem setHeight_pending (s : State) (d : Word) : (s.setHeight d).pending = s.pending := rfl
@[simp] theorem setHeight_fair (s : State) (d : Word) : (s.setHeight d).fair = s.fair := rfl

/-! ### setSrcBase -/

@[simp] theorem setSrcBase_busy (s : State) (d : Word) : (s.setSrcBase d).busy = s.busy := rfl
@[simp] theorem setSrcBase_done (s : State) (d : Word) : (s.setSrcBase d).done = s.done := rfl
@[simp] theorem setSrcBase_err (s : State) (d : Word) : (s.setSrcBase d).err = s.err := rfl
@[simp] theorem setSrcBase_errCode (s : State) (d : Word) : (s.setSrcBase d).errCode = s.errCode := rfl
@[simp] theorem setSrcBase_mode (s : State) (d : Word) : (s.setSrcBase d).mode = s.mode := rfl
@[simp] theorem setSrcBase_channels (s : State) (d : Word) : (s.setSrcBase d).channels = s.channels := rfl
@[simp] theorem setSrcBase_cthr (s : State) (d : Word) : (s.setSrcBase d).cthr = s.cthr := rfl
@[simp] theorem setSrcBase_athr (s : State) (d : Word) : (s.setSrcBase d).athr = s.athr := rfl
@[simp] theorem setSrcBase_width (s : State) (d : Word) : (s.setSrcBase d).width = s.width := rfl
@[simp] theorem setSrcBase_height (s : State) (d : Word) : (s.setSrcBase d).height = s.height := rfl
@[simp] theorem setSrcBase_srcBase (s : State) (d : Word) : (s.setSrcBase d).srcBase = d := rfl
@[simp] theorem setSrcBase_srcLen (s : State) (d : Word) : (s.setSrcBase d).srcLen = s.srcLen := rfl
@[simp] theorem setSrcBase_dstBase (s : State) (d : Word) : (s.setSrcBase d).dstBase = s.dstBase := rfl
@[simp] theorem setSrcBase_dstLen (s : State) (d : Word) : (s.setSrcBase d).dstLen = s.dstLen := rfl
@[simp] theorem setSrcBase_pixel (s : State) (d : Word) : (s.setSrcBase d).pixel = s.pixel := rfl
@[simp] theorem setSrcBase_curY (s : State) (d : Word) : (s.setSrcBase d).curY = s.curY := rfl
@[simp] theorem setSrcBase_curXg (s : State) (d : Word) : (s.setSrcBase d).curXg = s.curXg := rfl
@[simp] theorem setSrcBase_mem (s : State) (d : Word) : (s.setSrcBase d).mem = s.mem := rfl
@[simp] theorem setSrcBase_admits (s : State) (d : Word) : (s.setSrcBase d).admits = s.admits := rfl
@[simp] theorem setSrcBase_startMem (s : State) (d : Word) : (s.setSrcBase d).startMem = s.startMem := rfl
@[simp] theorem setSrcBase_traffic (s : State) (d : Word) : (s.setSrcBase d).traffic = s.traffic := rfl
@[simp] theorem setSrcBase_raceCount (s : State) (d : Word) : (s.setSrcBase d).raceCount = s.raceCount := rfl
@[simp] theorem setSrcBase_observed (s : State) (d : Word) : (s.setSrcBase d).observed = s.observed := rfl
@[simp] theorem setSrcBase_pending (s : State) (d : Word) : (s.setSrcBase d).pending = s.pending := rfl
@[simp] theorem setSrcBase_fair (s : State) (d : Word) : (s.setSrcBase d).fair = s.fair := rfl

/-! ### setSrcLen -/

@[simp] theorem setSrcLen_busy (s : State) (d : Word) : (s.setSrcLen d).busy = s.busy := rfl
@[simp] theorem setSrcLen_done (s : State) (d : Word) : (s.setSrcLen d).done = s.done := rfl
@[simp] theorem setSrcLen_err (s : State) (d : Word) : (s.setSrcLen d).err = s.err := rfl
@[simp] theorem setSrcLen_errCode (s : State) (d : Word) : (s.setSrcLen d).errCode = s.errCode := rfl
@[simp] theorem setSrcLen_mode (s : State) (d : Word) : (s.setSrcLen d).mode = s.mode := rfl
@[simp] theorem setSrcLen_channels (s : State) (d : Word) : (s.setSrcLen d).channels = s.channels := rfl
@[simp] theorem setSrcLen_cthr (s : State) (d : Word) : (s.setSrcLen d).cthr = s.cthr := rfl
@[simp] theorem setSrcLen_athr (s : State) (d : Word) : (s.setSrcLen d).athr = s.athr := rfl
@[simp] theorem setSrcLen_width (s : State) (d : Word) : (s.setSrcLen d).width = s.width := rfl
@[simp] theorem setSrcLen_height (s : State) (d : Word) : (s.setSrcLen d).height = s.height := rfl
@[simp] theorem setSrcLen_srcBase (s : State) (d : Word) : (s.setSrcLen d).srcBase = s.srcBase := rfl
@[simp] theorem setSrcLen_srcLen (s : State) (d : Word) : (s.setSrcLen d).srcLen = d := rfl
@[simp] theorem setSrcLen_dstBase (s : State) (d : Word) : (s.setSrcLen d).dstBase = s.dstBase := rfl
@[simp] theorem setSrcLen_dstLen (s : State) (d : Word) : (s.setSrcLen d).dstLen = s.dstLen := rfl
@[simp] theorem setSrcLen_pixel (s : State) (d : Word) : (s.setSrcLen d).pixel = s.pixel := rfl
@[simp] theorem setSrcLen_curY (s : State) (d : Word) : (s.setSrcLen d).curY = s.curY := rfl
@[simp] theorem setSrcLen_curXg (s : State) (d : Word) : (s.setSrcLen d).curXg = s.curXg := rfl
@[simp] theorem setSrcLen_mem (s : State) (d : Word) : (s.setSrcLen d).mem = s.mem := rfl
@[simp] theorem setSrcLen_admits (s : State) (d : Word) : (s.setSrcLen d).admits = s.admits := rfl
@[simp] theorem setSrcLen_startMem (s : State) (d : Word) : (s.setSrcLen d).startMem = s.startMem := rfl
@[simp] theorem setSrcLen_traffic (s : State) (d : Word) : (s.setSrcLen d).traffic = s.traffic := rfl
@[simp] theorem setSrcLen_raceCount (s : State) (d : Word) : (s.setSrcLen d).raceCount = s.raceCount := rfl
@[simp] theorem setSrcLen_observed (s : State) (d : Word) : (s.setSrcLen d).observed = s.observed := rfl
@[simp] theorem setSrcLen_pending (s : State) (d : Word) : (s.setSrcLen d).pending = s.pending := rfl
@[simp] theorem setSrcLen_fair (s : State) (d : Word) : (s.setSrcLen d).fair = s.fair := rfl

/-! ### setDstBase -/

@[simp] theorem setDstBase_busy (s : State) (d : Word) : (s.setDstBase d).busy = s.busy := rfl
@[simp] theorem setDstBase_done (s : State) (d : Word) : (s.setDstBase d).done = s.done := rfl
@[simp] theorem setDstBase_err (s : State) (d : Word) : (s.setDstBase d).err = s.err := rfl
@[simp] theorem setDstBase_errCode (s : State) (d : Word) : (s.setDstBase d).errCode = s.errCode := rfl
@[simp] theorem setDstBase_mode (s : State) (d : Word) : (s.setDstBase d).mode = s.mode := rfl
@[simp] theorem setDstBase_channels (s : State) (d : Word) : (s.setDstBase d).channels = s.channels := rfl
@[simp] theorem setDstBase_cthr (s : State) (d : Word) : (s.setDstBase d).cthr = s.cthr := rfl
@[simp] theorem setDstBase_athr (s : State) (d : Word) : (s.setDstBase d).athr = s.athr := rfl
@[simp] theorem setDstBase_width (s : State) (d : Word) : (s.setDstBase d).width = s.width := rfl
@[simp] theorem setDstBase_height (s : State) (d : Word) : (s.setDstBase d).height = s.height := rfl
@[simp] theorem setDstBase_srcBase (s : State) (d : Word) : (s.setDstBase d).srcBase = s.srcBase := rfl
@[simp] theorem setDstBase_srcLen (s : State) (d : Word) : (s.setDstBase d).srcLen = s.srcLen := rfl
@[simp] theorem setDstBase_dstBase (s : State) (d : Word) : (s.setDstBase d).dstBase = d := rfl
@[simp] theorem setDstBase_dstLen (s : State) (d : Word) : (s.setDstBase d).dstLen = s.dstLen := rfl
@[simp] theorem setDstBase_pixel (s : State) (d : Word) : (s.setDstBase d).pixel = s.pixel := rfl
@[simp] theorem setDstBase_curY (s : State) (d : Word) : (s.setDstBase d).curY = s.curY := rfl
@[simp] theorem setDstBase_curXg (s : State) (d : Word) : (s.setDstBase d).curXg = s.curXg := rfl
@[simp] theorem setDstBase_mem (s : State) (d : Word) : (s.setDstBase d).mem = s.mem := rfl
@[simp] theorem setDstBase_admits (s : State) (d : Word) : (s.setDstBase d).admits = s.admits := rfl
@[simp] theorem setDstBase_startMem (s : State) (d : Word) : (s.setDstBase d).startMem = s.startMem := rfl
@[simp] theorem setDstBase_traffic (s : State) (d : Word) : (s.setDstBase d).traffic = s.traffic := rfl
@[simp] theorem setDstBase_raceCount (s : State) (d : Word) : (s.setDstBase d).raceCount = s.raceCount := rfl
@[simp] theorem setDstBase_observed (s : State) (d : Word) : (s.setDstBase d).observed = s.observed := rfl
@[simp] theorem setDstBase_pending (s : State) (d : Word) : (s.setDstBase d).pending = s.pending := rfl
@[simp] theorem setDstBase_fair (s : State) (d : Word) : (s.setDstBase d).fair = s.fair := rfl

/-! ### setDstLen -/

@[simp] theorem setDstLen_busy (s : State) (d : Word) : (s.setDstLen d).busy = s.busy := rfl
@[simp] theorem setDstLen_done (s : State) (d : Word) : (s.setDstLen d).done = s.done := rfl
@[simp] theorem setDstLen_err (s : State) (d : Word) : (s.setDstLen d).err = s.err := rfl
@[simp] theorem setDstLen_errCode (s : State) (d : Word) : (s.setDstLen d).errCode = s.errCode := rfl
@[simp] theorem setDstLen_mode (s : State) (d : Word) : (s.setDstLen d).mode = s.mode := rfl
@[simp] theorem setDstLen_channels (s : State) (d : Word) : (s.setDstLen d).channels = s.channels := rfl
@[simp] theorem setDstLen_cthr (s : State) (d : Word) : (s.setDstLen d).cthr = s.cthr := rfl
@[simp] theorem setDstLen_athr (s : State) (d : Word) : (s.setDstLen d).athr = s.athr := rfl
@[simp] theorem setDstLen_width (s : State) (d : Word) : (s.setDstLen d).width = s.width := rfl
@[simp] theorem setDstLen_height (s : State) (d : Word) : (s.setDstLen d).height = s.height := rfl
@[simp] theorem setDstLen_srcBase (s : State) (d : Word) : (s.setDstLen d).srcBase = s.srcBase := rfl
@[simp] theorem setDstLen_srcLen (s : State) (d : Word) : (s.setDstLen d).srcLen = s.srcLen := rfl
@[simp] theorem setDstLen_dstBase (s : State) (d : Word) : (s.setDstLen d).dstBase = s.dstBase := rfl
@[simp] theorem setDstLen_dstLen (s : State) (d : Word) : (s.setDstLen d).dstLen = d := rfl
@[simp] theorem setDstLen_pixel (s : State) (d : Word) : (s.setDstLen d).pixel = s.pixel := rfl
@[simp] theorem setDstLen_curY (s : State) (d : Word) : (s.setDstLen d).curY = s.curY := rfl
@[simp] theorem setDstLen_curXg (s : State) (d : Word) : (s.setDstLen d).curXg = s.curXg := rfl
@[simp] theorem setDstLen_mem (s : State) (d : Word) : (s.setDstLen d).mem = s.mem := rfl
@[simp] theorem setDstLen_admits (s : State) (d : Word) : (s.setDstLen d).admits = s.admits := rfl
@[simp] theorem setDstLen_startMem (s : State) (d : Word) : (s.setDstLen d).startMem = s.startMem := rfl
@[simp] theorem setDstLen_traffic (s : State) (d : Word) : (s.setDstLen d).traffic = s.traffic := rfl
@[simp] theorem setDstLen_raceCount (s : State) (d : Word) : (s.setDstLen d).raceCount = s.raceCount := rfl
@[simp] theorem setDstLen_observed (s : State) (d : Word) : (s.setDstLen d).observed = s.observed := rfl
@[simp] theorem setDstLen_pending (s : State) (d : Word) : (s.setDstLen d).pending = s.pending := rfl
@[simp] theorem setDstLen_fair (s : State) (d : Word) : (s.setDstLen d).fair = s.fair := rfl

/-! ### setPixel -/

@[simp] theorem setPixel_busy (s : State) (d : Word) : (s.setPixel d).busy = s.busy := rfl
@[simp] theorem setPixel_done (s : State) (d : Word) : (s.setPixel d).done = s.done := rfl
@[simp] theorem setPixel_err (s : State) (d : Word) : (s.setPixel d).err = s.err := rfl
@[simp] theorem setPixel_errCode (s : State) (d : Word) : (s.setPixel d).errCode = s.errCode := rfl
@[simp] theorem setPixel_mode (s : State) (d : Word) : (s.setPixel d).mode = s.mode := rfl
@[simp] theorem setPixel_channels (s : State) (d : Word) : (s.setPixel d).channels = s.channels := rfl
@[simp] theorem setPixel_cthr (s : State) (d : Word) : (s.setPixel d).cthr = s.cthr := rfl
@[simp] theorem setPixel_athr (s : State) (d : Word) : (s.setPixel d).athr = s.athr := rfl
@[simp] theorem setPixel_width (s : State) (d : Word) : (s.setPixel d).width = s.width := rfl
@[simp] theorem setPixel_height (s : State) (d : Word) : (s.setPixel d).height = s.height := rfl
@[simp] theorem setPixel_srcBase (s : State) (d : Word) : (s.setPixel d).srcBase = s.srcBase := rfl
@[simp] theorem setPixel_srcLen (s : State) (d : Word) : (s.setPixel d).srcLen = s.srcLen := rfl
@[simp] theorem setPixel_dstBase (s : State) (d : Word) : (s.setPixel d).dstBase = s.dstBase := rfl
@[simp] theorem setPixel_dstLen (s : State) (d : Word) : (s.setPixel d).dstLen = s.dstLen := rfl
@[simp] theorem setPixel_pixel (s : State) (d : Word) : (s.setPixel d).pixel = d := rfl
@[simp] theorem setPixel_curY (s : State) (d : Word) : (s.setPixel d).curY = s.curY := rfl
@[simp] theorem setPixel_curXg (s : State) (d : Word) : (s.setPixel d).curXg = s.curXg := rfl
@[simp] theorem setPixel_mem (s : State) (d : Word) : (s.setPixel d).mem = s.mem := rfl
@[simp] theorem setPixel_admits (s : State) (d : Word) : (s.setPixel d).admits = s.admits := rfl
@[simp] theorem setPixel_startMem (s : State) (d : Word) : (s.setPixel d).startMem = s.startMem := rfl
@[simp] theorem setPixel_traffic (s : State) (d : Word) : (s.setPixel d).traffic = s.traffic := rfl
@[simp] theorem setPixel_raceCount (s : State) (d : Word) : (s.setPixel d).raceCount = s.raceCount := rfl
@[simp] theorem setPixel_observed (s : State) (d : Word) : (s.setPixel d).observed = s.observed := rfl
@[simp] theorem setPixel_pending (s : State) (d : Word) : (s.setPixel d).pending = s.pending := rfl
@[simp] theorem setPixel_fair (s : State) (d : Word) : (s.setPixel d).fair = s.fair := rfl

/-! ### clearReport -/

@[simp] theorem clearReport_busy (s : State) : (s.clearReport).busy = s.busy := rfl
@[simp] theorem clearReport_done (s : State) : (s.clearReport).done = false := rfl
@[simp] theorem clearReport_err (s : State) : (s.clearReport).err = false := rfl
@[simp] theorem clearReport_errCode (s : State) : (s.clearReport).errCode = 0#4 := rfl
@[simp] theorem clearReport_mode (s : State) : (s.clearReport).mode = s.mode := rfl
@[simp] theorem clearReport_channels (s : State) : (s.clearReport).channels = s.channels := rfl
@[simp] theorem clearReport_cthr (s : State) : (s.clearReport).cthr = s.cthr := rfl
@[simp] theorem clearReport_athr (s : State) : (s.clearReport).athr = s.athr := rfl
@[simp] theorem clearReport_width (s : State) : (s.clearReport).width = s.width := rfl
@[simp] theorem clearReport_height (s : State) : (s.clearReport).height = s.height := rfl
@[simp] theorem clearReport_srcBase (s : State) : (s.clearReport).srcBase = s.srcBase := rfl
@[simp] theorem clearReport_srcLen (s : State) : (s.clearReport).srcLen = s.srcLen := rfl
@[simp] theorem clearReport_dstBase (s : State) : (s.clearReport).dstBase = s.dstBase := rfl
@[simp] theorem clearReport_dstLen (s : State) : (s.clearReport).dstLen = s.dstLen := rfl
@[simp] theorem clearReport_pixel (s : State) : (s.clearReport).pixel = s.pixel := rfl
@[simp] theorem clearReport_curY (s : State) : (s.clearReport).curY = s.curY := rfl
@[simp] theorem clearReport_curXg (s : State) : (s.clearReport).curXg = s.curXg := rfl
@[simp] theorem clearReport_mem (s : State) : (s.clearReport).mem = s.mem := rfl
@[simp] theorem clearReport_admits (s : State) : (s.clearReport).admits = s.admits := rfl
@[simp] theorem clearReport_startMem (s : State) : (s.clearReport).startMem = s.startMem := rfl
@[simp] theorem clearReport_traffic (s : State) : (s.clearReport).traffic = s.traffic := rfl
@[simp] theorem clearReport_raceCount (s : State) : (s.clearReport).raceCount = s.raceCount := rfl
@[simp] theorem clearReport_observed (s : State) : (s.clearReport).observed = s.observed := rfl
@[simp] theorem clearReport_pending (s : State) : (s.clearReport).pending = s.pending := rfl
@[simp] theorem clearReport_fair (s : State) : (s.clearReport).fair = s.fair := rfl

/-! ### raiseViolation -/

@[simp] theorem raiseViolation_busy (s : State) (v : Violation) : (s.raiseViolation v).busy = s.busy := rfl
@[simp] theorem raiseViolation_done (s : State) (v : Violation) : (s.raiseViolation v).done = true := rfl
@[simp] theorem raiseViolation_err (s : State) (v : Violation) : (s.raiseViolation v).err = true := rfl
@[simp] theorem raiseViolation_errCode (s : State) (v : Violation) : (s.raiseViolation v).errCode = violationCode v := rfl
@[simp] theorem raiseViolation_mode (s : State) (v : Violation) : (s.raiseViolation v).mode = s.mode := rfl
@[simp] theorem raiseViolation_channels (s : State) (v : Violation) : (s.raiseViolation v).channels = s.channels := rfl
@[simp] theorem raiseViolation_cthr (s : State) (v : Violation) : (s.raiseViolation v).cthr = s.cthr := rfl
@[simp] theorem raiseViolation_athr (s : State) (v : Violation) : (s.raiseViolation v).athr = s.athr := rfl
@[simp] theorem raiseViolation_width (s : State) (v : Violation) : (s.raiseViolation v).width = s.width := rfl
@[simp] theorem raiseViolation_height (s : State) (v : Violation) : (s.raiseViolation v).height = s.height := rfl
@[simp] theorem raiseViolation_srcBase (s : State) (v : Violation) : (s.raiseViolation v).srcBase = s.srcBase := rfl
@[simp] theorem raiseViolation_srcLen (s : State) (v : Violation) : (s.raiseViolation v).srcLen = s.srcLen := rfl
@[simp] theorem raiseViolation_dstBase (s : State) (v : Violation) : (s.raiseViolation v).dstBase = s.dstBase := rfl
@[simp] theorem raiseViolation_dstLen (s : State) (v : Violation) : (s.raiseViolation v).dstLen = s.dstLen := rfl
@[simp] theorem raiseViolation_pixel (s : State) (v : Violation) : (s.raiseViolation v).pixel = s.pixel := rfl
@[simp] theorem raiseViolation_curY (s : State) (v : Violation) : (s.raiseViolation v).curY = s.curY := rfl
@[simp] theorem raiseViolation_curXg (s : State) (v : Violation) : (s.raiseViolation v).curXg = s.curXg := rfl
@[simp] theorem raiseViolation_mem (s : State) (v : Violation) : (s.raiseViolation v).mem = s.mem := rfl
@[simp] theorem raiseViolation_admits (s : State) (v : Violation) : (s.raiseViolation v).admits = s.admits := rfl
@[simp] theorem raiseViolation_startMem (s : State) (v : Violation) : (s.raiseViolation v).startMem = s.startMem := rfl
@[simp] theorem raiseViolation_traffic (s : State) (v : Violation) : (s.raiseViolation v).traffic = s.traffic := rfl
@[simp] theorem raiseViolation_raceCount (s : State) (v : Violation) : (s.raiseViolation v).raceCount = s.raceCount := rfl
@[simp] theorem raiseViolation_observed (s : State) (v : Violation) : (s.raiseViolation v).observed = s.observed := rfl
@[simp] theorem raiseViolation_pending (s : State) (v : Violation) : (s.raiseViolation v).pending = s.pending := rfl
@[simp] theorem raiseViolation_fair (s : State) (v : Violation) : (s.raiseViolation v).fair = s.fair := rfl

/-! ### acceptStart -/

@[simp] theorem acceptStart_busy (s : State) : (s.acceptStart).busy = true := rfl
@[simp] theorem acceptStart_done (s : State) : (s.acceptStart).done = s.done := rfl
@[simp] theorem acceptStart_err (s : State) : (s.acceptStart).err = s.err := rfl
@[simp] theorem acceptStart_errCode (s : State) : (s.acceptStart).errCode = s.errCode := rfl
@[simp] theorem acceptStart_mode (s : State) : (s.acceptStart).mode = s.mode := rfl
@[simp] theorem acceptStart_channels (s : State) : (s.acceptStart).channels = s.channels := rfl
@[simp] theorem acceptStart_cthr (s : State) : (s.acceptStart).cthr = s.cthr := rfl
@[simp] theorem acceptStart_athr (s : State) : (s.acceptStart).athr = s.athr := rfl
@[simp] theorem acceptStart_width (s : State) : (s.acceptStart).width = s.width := rfl
@[simp] theorem acceptStart_height (s : State) : (s.acceptStart).height = s.height := rfl
@[simp] theorem acceptStart_srcBase (s : State) : (s.acceptStart).srcBase = s.srcBase := rfl
@[simp] theorem acceptStart_srcLen (s : State) : (s.acceptStart).srcLen = s.srcLen := rfl
@[simp] theorem acceptStart_dstBase (s : State) : (s.acceptStart).dstBase = s.dstBase := rfl
@[simp] theorem acceptStart_dstLen (s : State) : (s.acceptStart).dstLen = s.dstLen := rfl
@[simp] theorem acceptStart_pixel (s : State) : (s.acceptStart).pixel = s.pixel := rfl
@[simp] theorem acceptStart_curY (s : State) : (s.acceptStart).curY = 0#16 := rfl
@[simp] theorem acceptStart_curXg (s : State) : (s.acceptStart).curXg = 0#16 := rfl
@[simp] theorem acceptStart_mem (s : State) : (s.acceptStart).mem = s.mem := rfl
@[simp] theorem acceptStart_admits (s : State) : (s.acceptStart).admits = s.admits := rfl
@[simp] theorem acceptStart_startMem (s : State) : (s.acceptStart).startMem = s.mem := rfl
@[simp] theorem acceptStart_traffic (s : State) : (s.acceptStart).traffic = s.traffic := rfl
@[simp] theorem acceptStart_raceCount (s : State) : (s.acceptStart).raceCount = s.raceCount := rfl
@[simp] theorem acceptStart_observed (s : State) : (s.acceptStart).observed = s.observed := rfl
@[simp] theorem acceptStart_pending (s : State) : (s.acceptStart).pending = s.pending := rfl
@[simp] theorem acceptStart_fair (s : State) : (s.acceptStart).fair = s.fair := rfl

/-! ### resetBlock -/

@[simp] theorem resetBlock_busy (s : State) : (s.resetBlock).busy = false := rfl
@[simp] theorem resetBlock_done (s : State) : (s.resetBlock).done = false := rfl
@[simp] theorem resetBlock_err (s : State) : (s.resetBlock).err = false := rfl
@[simp] theorem resetBlock_errCode (s : State) : (s.resetBlock).errCode = 0#4 := rfl
@[simp] theorem resetBlock_mode (s : State) : (s.resetBlock).mode = 1#3 := rfl
@[simp] theorem resetBlock_channels (s : State) : (s.resetBlock).channels = 4#3 := rfl
@[simp] theorem resetBlock_cthr (s : State) : (s.resetBlock).cthr = 229#10 := rfl
@[simp] theorem resetBlock_athr (s : State) : (s.resetBlock).athr = 51#8 := rfl
@[simp] theorem resetBlock_width (s : State) : (s.resetBlock).width = 0#16 := rfl
@[simp] theorem resetBlock_height (s : State) : (s.resetBlock).height = 0#16 := rfl
@[simp] theorem resetBlock_srcBase (s : State) : (s.resetBlock).srcBase = 0#32 := rfl
@[simp] theorem resetBlock_srcLen (s : State) : (s.resetBlock).srcLen = 0#32 := rfl
@[simp] theorem resetBlock_dstBase (s : State) : (s.resetBlock).dstBase = 0#32 := rfl
@[simp] theorem resetBlock_dstLen (s : State) : (s.resetBlock).dstLen = 0#32 := rfl
@[simp] theorem resetBlock_pixel (s : State) : (s.resetBlock).pixel = 0#32 := rfl
@[simp] theorem resetBlock_curY (s : State) : (s.resetBlock).curY = 0#16 := rfl
@[simp] theorem resetBlock_curXg (s : State) : (s.resetBlock).curXg = 0#16 := rfl
@[simp] theorem resetBlock_mem (s : State) : (s.resetBlock).mem = s.mem := rfl
@[simp] theorem resetBlock_admits (s : State) : (s.resetBlock).admits = s.admits := rfl
@[simp] theorem resetBlock_startMem (s : State) : (s.resetBlock).startMem = s.startMem := rfl
@[simp] theorem resetBlock_traffic (s : State) : (s.resetBlock).traffic = s.traffic := rfl
@[simp] theorem resetBlock_raceCount (s : State) : (s.resetBlock).raceCount = s.raceCount := rfl
@[simp] theorem resetBlock_observed (s : State) : (s.resetBlock).observed = s.observed := rfl
@[simp] theorem resetBlock_pending (s : State) : (s.resetBlock).pending = s.pending := rfl
@[simp] theorem resetBlock_fair (s : State) : (s.resetBlock).fair = s.fair := rfl

/-! ### packGroup -/

@[simp] theorem packGroup_busy (s : State) : (s.packGroup).busy = s.busy := rfl
@[simp] theorem packGroup_done (s : State) : (s.packGroup).done = s.done := rfl
@[simp] theorem packGroup_err (s : State) : (s.packGroup).err = s.err := rfl
@[simp] theorem packGroup_errCode (s : State) : (s.packGroup).errCode = s.errCode := rfl
@[simp] theorem packGroup_mode (s : State) : (s.packGroup).mode = s.mode := rfl
@[simp] theorem packGroup_channels (s : State) : (s.packGroup).channels = s.channels := rfl
@[simp] theorem packGroup_cthr (s : State) : (s.packGroup).cthr = s.cthr := rfl
@[simp] theorem packGroup_athr (s : State) : (s.packGroup).athr = s.athr := rfl
@[simp] theorem packGroup_width (s : State) : (s.packGroup).width = s.width := rfl
@[simp] theorem packGroup_height (s : State) : (s.packGroup).height = s.height := rfl
@[simp] theorem packGroup_srcBase (s : State) : (s.packGroup).srcBase = s.srcBase := rfl
@[simp] theorem packGroup_srcLen (s : State) : (s.packGroup).srcLen = s.srcLen := rfl
@[simp] theorem packGroup_dstBase (s : State) : (s.packGroup).dstBase = s.dstBase := rfl
@[simp] theorem packGroup_dstLen (s : State) : (s.packGroup).dstLen = s.dstLen := rfl
@[simp] theorem packGroup_pixel (s : State) : (s.packGroup).pixel = s.pixel := rfl
@[simp] theorem packGroup_curY (s : State) : (s.packGroup).curY = s.curY := rfl
@[simp] theorem packGroup_curXg (s : State) : (s.packGroup).curXg = s.curXg := rfl
@[simp] theorem packGroup_mem (s : State) : (s.packGroup).mem = s.mem.write (groupWrite s s.xg s.y) (groupByte s s.mem s.xg s.y) := rfl
@[simp] theorem packGroup_admits (s : State) : (s.packGroup).admits = s.admits := rfl
@[simp] theorem packGroup_startMem (s : State) : (s.packGroup).startMem = s.startMem := rfl
@[simp] theorem packGroup_traffic (s : State) : (s.packGroup).traffic = ⟨groupReads s s.xg s.y, groupWrite s s.xg s.y, groupByte s s.mem s.xg s.y⟩ :: s.traffic := rfl
@[simp] theorem packGroup_raceCount (s : State) : (s.packGroup).raceCount = s.raceCount := rfl
@[simp] theorem packGroup_observed (s : State) : (s.packGroup).observed = s.observed := rfl
@[simp] theorem packGroup_pending (s : State) : (s.packGroup).pending = s.pending := rfl
@[simp] theorem packGroup_fair (s : State) : (s.packGroup).fair = s.fair := rfl

/-! ### complete -/

@[simp] theorem complete_busy (s : State) : (s.complete).busy = false := rfl
@[simp] theorem complete_done (s : State) : (s.complete).done = true := rfl
@[simp] theorem complete_err (s : State) : (s.complete).err = s.err := rfl
@[simp] theorem complete_errCode (s : State) : (s.complete).errCode = s.errCode := rfl
@[simp] theorem complete_mode (s : State) : (s.complete).mode = s.mode := rfl
@[simp] theorem complete_channels (s : State) : (s.complete).channels = s.channels := rfl
@[simp] theorem complete_cthr (s : State) : (s.complete).cthr = s.cthr := rfl
@[simp] theorem complete_athr (s : State) : (s.complete).athr = s.athr := rfl
@[simp] theorem complete_width (s : State) : (s.complete).width = s.width := rfl
@[simp] theorem complete_height (s : State) : (s.complete).height = s.height := rfl
@[simp] theorem complete_srcBase (s : State) : (s.complete).srcBase = s.srcBase := rfl
@[simp] theorem complete_srcLen (s : State) : (s.complete).srcLen = s.srcLen := rfl
@[simp] theorem complete_dstBase (s : State) : (s.complete).dstBase = s.dstBase := rfl
@[simp] theorem complete_dstLen (s : State) : (s.complete).dstLen = s.dstLen := rfl
@[simp] theorem complete_pixel (s : State) : (s.complete).pixel = s.pixel := rfl
@[simp] theorem complete_curY (s : State) : (s.complete).curY = s.curY := rfl
@[simp] theorem complete_curXg (s : State) : (s.complete).curXg = s.curXg := rfl
@[simp] theorem complete_mem (s : State) : (s.complete).mem = s.mem := rfl
@[simp] theorem complete_admits (s : State) : (s.complete).admits = s.admits := rfl
@[simp] theorem complete_startMem (s : State) : (s.complete).startMem = s.startMem := rfl
@[simp] theorem complete_traffic (s : State) : (s.complete).traffic = s.traffic := rfl
@[simp] theorem complete_raceCount (s : State) : (s.complete).raceCount = s.raceCount := rfl
@[simp] theorem complete_observed (s : State) : (s.complete).observed = s.observed := rfl
@[simp] theorem complete_pending (s : State) : (s.complete).pending = s.pending := rfl
@[simp] theorem complete_fair (s : State) : (s.complete).fair = s.fair := rfl

/-! ### present -/

@[simp] theorem present_busy (s : State) (e : Encoded) : (s.present e).busy = s.busy := rfl
@[simp] theorem present_done (s : State) (e : Encoded) : (s.present e).done = s.done := rfl
@[simp] theorem present_err (s : State) (e : Encoded) : (s.present e).err = s.err := rfl
@[simp] theorem present_errCode (s : State) (e : Encoded) : (s.present e).errCode = s.errCode := rfl
@[simp] theorem present_mode (s : State) (e : Encoded) : (s.present e).mode = s.mode := rfl
@[simp] theorem present_channels (s : State) (e : Encoded) : (s.present e).channels = s.channels := rfl
@[simp] theorem present_cthr (s : State) (e : Encoded) : (s.present e).cthr = s.cthr := rfl
@[simp] theorem present_athr (s : State) (e : Encoded) : (s.present e).athr = s.athr := rfl
@[simp] theorem present_width (s : State) (e : Encoded) : (s.present e).width = s.width := rfl
@[simp] theorem present_height (s : State) (e : Encoded) : (s.present e).height = s.height := rfl
@[simp] theorem present_srcBase (s : State) (e : Encoded) : (s.present e).srcBase = s.srcBase := rfl
@[simp] theorem present_srcLen (s : State) (e : Encoded) : (s.present e).srcLen = s.srcLen := rfl
@[simp] theorem present_dstBase (s : State) (e : Encoded) : (s.present e).dstBase = s.dstBase := rfl
@[simp] theorem present_dstLen (s : State) (e : Encoded) : (s.present e).dstLen = s.dstLen := rfl
@[simp] theorem present_pixel (s : State) (e : Encoded) : (s.present e).pixel = s.pixel := rfl
@[simp] theorem present_curY (s : State) (e : Encoded) : (s.present e).curY = s.curY := rfl
@[simp] theorem present_curXg (s : State) (e : Encoded) : (s.present e).curXg = s.curXg := rfl
@[simp] theorem present_mem (s : State) (e : Encoded) : (s.present e).mem = s.mem := rfl
@[simp] theorem present_admits (s : State) (e : Encoded) : (s.present e).admits = s.admits := rfl
@[simp] theorem present_startMem (s : State) (e : Encoded) : (s.present e).startMem = s.startMem := rfl
@[simp] theorem present_traffic (s : State) (e : Encoded) : (s.present e).traffic = s.traffic := rfl
@[simp] theorem present_raceCount (s : State) (e : Encoded) : (s.present e).raceCount = s.raceCount := rfl
@[simp] theorem present_observed (s : State) (e : Encoded) : (s.present e).observed = s.observed := rfl
@[simp] theorem present_pending (s : State) (e : Encoded) : (s.present e).pending = eventOf e :: s.pending := rfl
@[simp] theorem present_fair (s : State) (e : Encoded) : (s.present e).fair = s.fair := rfl

/-! ### countRace -/

@[simp] theorem countRace_busy (s : State) : s.countRace.busy = s.busy := rfl
@[simp] theorem countRace_done (s : State) : s.countRace.done = s.done := rfl
@[simp] theorem countRace_err (s : State) : s.countRace.err = s.err := rfl
@[simp] theorem countRace_errCode (s : State) : s.countRace.errCode = s.errCode := rfl
@[simp] theorem countRace_mode (s : State) : s.countRace.mode = s.mode := rfl
@[simp] theorem countRace_channels (s : State) : s.countRace.channels = s.channels := rfl
@[simp] theorem countRace_cthr (s : State) : s.countRace.cthr = s.cthr := rfl
@[simp] theorem countRace_athr (s : State) : s.countRace.athr = s.athr := rfl
@[simp] theorem countRace_width (s : State) : s.countRace.width = s.width := rfl
@[simp] theorem countRace_height (s : State) : s.countRace.height = s.height := rfl
@[simp] theorem countRace_srcBase (s : State) : s.countRace.srcBase = s.srcBase := rfl
@[simp] theorem countRace_srcLen (s : State) : s.countRace.srcLen = s.srcLen := rfl
@[simp] theorem countRace_dstBase (s : State) : s.countRace.dstBase = s.dstBase := rfl
@[simp] theorem countRace_dstLen (s : State) : s.countRace.dstLen = s.dstLen := rfl
@[simp] theorem countRace_pixel (s : State) : s.countRace.pixel = s.pixel := rfl
@[simp] theorem countRace_curY (s : State) : s.countRace.curY = s.curY := rfl
@[simp] theorem countRace_curXg (s : State) : s.countRace.curXg = s.curXg := rfl
@[simp] theorem countRace_mem (s : State) : s.countRace.mem = s.mem := rfl
@[simp] theorem countRace_admits (s : State) : s.countRace.admits = s.admits := rfl
@[simp] theorem countRace_startMem (s : State) : s.countRace.startMem = s.startMem := rfl
@[simp] theorem countRace_traffic (s : State) : s.countRace.traffic = s.traffic := rfl
@[simp] theorem countRace_raceCount (s : State) : s.countRace.raceCount = s.raceCount + 1 := rfl
@[simp] theorem countRace_observed (s : State) : s.countRace.observed = s.observed := rfl
@[simp] theorem countRace_pending (s : State) : s.countRace.pending = s.pending := rfl
@[simp] theorem countRace_fair (s : State) : s.countRace.fair = s.fair := rfl

/-! ### storeByte -/

@[simp] theorem storeByte_busy (s : State) (a : Nat) (v : Byte) : (s.storeByte a v).busy = s.busy := rfl
@[simp] theorem storeByte_done (s : State) (a : Nat) (v : Byte) : (s.storeByte a v).done = s.done := rfl
@[simp] theorem storeByte_err (s : State) (a : Nat) (v : Byte) : (s.storeByte a v).err = s.err := rfl
@[simp] theorem storeByte_errCode (s : State) (a : Nat) (v : Byte) : (s.storeByte a v).errCode = s.errCode := rfl
@[simp] theorem storeByte_mode (s : State) (a : Nat) (v : Byte) : (s.storeByte a v).mode = s.mode := rfl
@[simp] theorem storeByte_channels (s : State) (a : Nat) (v : Byte) : (s.storeByte a v).channels = s.channels := rfl
@[simp] theorem storeByte_cthr (s : State) (a : Nat) (v : Byte) : (s.storeByte a v).cthr = s.cthr := rfl
@[simp] theorem storeByte_athr (s : State) (a : Nat) (v : Byte) : (s.storeByte a v).athr = s.athr := rfl
@[simp] theorem storeByte_width (s : State) (a : Nat) (v : Byte) : (s.storeByte a v).width = s.width := rfl
@[simp] theorem storeByte_height (s : State) (a : Nat) (v : Byte) : (s.storeByte a v).height = s.height := rfl
@[simp] theorem storeByte_srcBase (s : State) (a : Nat) (v : Byte) : (s.storeByte a v).srcBase = s.srcBase := rfl
@[simp] theorem storeByte_srcLen (s : State) (a : Nat) (v : Byte) : (s.storeByte a v).srcLen = s.srcLen := rfl
@[simp] theorem storeByte_dstBase (s : State) (a : Nat) (v : Byte) : (s.storeByte a v).dstBase = s.dstBase := rfl
@[simp] theorem storeByte_dstLen (s : State) (a : Nat) (v : Byte) : (s.storeByte a v).dstLen = s.dstLen := rfl
@[simp] theorem storeByte_pixel (s : State) (a : Nat) (v : Byte) : (s.storeByte a v).pixel = s.pixel := rfl
@[simp] theorem storeByte_curY (s : State) (a : Nat) (v : Byte) : (s.storeByte a v).curY = s.curY := rfl
@[simp] theorem storeByte_curXg (s : State) (a : Nat) (v : Byte) : (s.storeByte a v).curXg = s.curXg := rfl
@[simp] theorem storeByte_mem (s : State) (a : Nat) (v : Byte) : (s.storeByte a v).mem = s.mem.write a v := rfl
@[simp] theorem storeByte_admits (s : State) (a : Nat) (v : Byte) : (s.storeByte a v).admits = s.admits := rfl
@[simp] theorem storeByte_startMem (s : State) (a : Nat) (v : Byte) : (s.storeByte a v).startMem = s.startMem := rfl
@[simp] theorem storeByte_traffic (s : State) (a : Nat) (v : Byte) : (s.storeByte a v).traffic = s.traffic := rfl
@[simp] theorem storeByte_raceCount (s : State) (a : Nat) (v : Byte) : (s.storeByte a v).raceCount = s.raceCount := rfl
@[simp] theorem storeByte_observed (s : State) (a : Nat) (v : Byte) : (s.storeByte a v).observed = s.observed := rfl
@[simp] theorem storeByte_pending (s : State) (a : Nat) (v : Byte) : (s.storeByte a v).pending = s.pending := rfl
@[simp] theorem storeByte_fair (s : State) (a : Nat) (v : Byte) : (s.storeByte a v).fair = s.fair := rfl

/-! ### advance: it branches, so its two cases are named -/

theorem advance_same_row {s : State} (h : s.xg + 8 < s.w) :
    s.advance = { s with curXg := BitVec.ofNat 16 (s.xg + 8) } := if_pos h

theorem advance_next_row {s : State} (h : ¬ s.xg + 8 < s.w) :
    s.advance = { s with curXg := 0#16, curY := BitVec.ofNat 16 (s.y + 1) } := if_neg h

@[simp] theorem advance_busy (s : State) : s.advance.busy = s.busy := by
  unfold State.advance; split <;> rfl
@[simp] theorem advance_done (s : State) : s.advance.done = s.done := by
  unfold State.advance; split <;> rfl
@[simp] theorem advance_err (s : State) : s.advance.err = s.err := by
  unfold State.advance; split <;> rfl
@[simp] theorem advance_errCode (s : State) : s.advance.errCode = s.errCode := by
  unfold State.advance; split <;> rfl
@[simp] theorem advance_mode (s : State) : s.advance.mode = s.mode := by
  unfold State.advance; split <;> rfl
@[simp] theorem advance_channels (s : State) : s.advance.channels = s.channels := by
  unfold State.advance; split <;> rfl
@[simp] theorem advance_cthr (s : State) : s.advance.cthr = s.cthr := by
  unfold State.advance; split <;> rfl
@[simp] theorem advance_athr (s : State) : s.advance.athr = s.athr := by
  unfold State.advance; split <;> rfl
@[simp] theorem advance_width (s : State) : s.advance.width = s.width := by
  unfold State.advance; split <;> rfl
@[simp] theorem advance_height (s : State) : s.advance.height = s.height := by
  unfold State.advance; split <;> rfl
@[simp] theorem advance_srcBase (s : State) : s.advance.srcBase = s.srcBase := by
  unfold State.advance; split <;> rfl
@[simp] theorem advance_srcLen (s : State) : s.advance.srcLen = s.srcLen := by
  unfold State.advance; split <;> rfl
@[simp] theorem advance_dstBase (s : State) : s.advance.dstBase = s.dstBase := by
  unfold State.advance; split <;> rfl
@[simp] theorem advance_dstLen (s : State) : s.advance.dstLen = s.dstLen := by
  unfold State.advance; split <;> rfl
@[simp] theorem advance_pixel (s : State) : s.advance.pixel = s.pixel := by
  unfold State.advance; split <;> rfl
@[simp] theorem advance_mem (s : State) : s.advance.mem = s.mem := by
  unfold State.advance; split <;> rfl
@[simp] theorem advance_admits (s : State) : s.advance.admits = s.admits := by
  unfold State.advance; split <;> rfl
@[simp] theorem advance_startMem (s : State) : s.advance.startMem = s.startMem := by
  unfold State.advance; split <;> rfl
@[simp] theorem advance_traffic (s : State) : s.advance.traffic = s.traffic := by
  unfold State.advance; split <;> rfl
@[simp] theorem advance_raceCount (s : State) : s.advance.raceCount = s.raceCount := by
  unfold State.advance; split <;> rfl
@[simp] theorem advance_observed (s : State) : s.advance.observed = s.observed := by
  unfold State.advance; split <;> rfl
@[simp] theorem advance_pending (s : State) : s.advance.pending = s.pending := by
  unfold State.advance; split <;> rfl
@[simp] theorem advance_fair (s : State) : s.advance.fair = s.fair := by
  unfold State.advance; split <;> rfl

/-! ### groupStep: pack, advance, and complete on the last group -/

@[simp] theorem groupStep_err (s : State) : s.groupStep.err = s.err := by
  unfold State.groupStep; split <;> simp
@[simp] theorem groupStep_errCode (s : State) : s.groupStep.errCode = s.errCode := by
  unfold State.groupStep; split <;> simp
@[simp] theorem groupStep_mode (s : State) : s.groupStep.mode = s.mode := by
  unfold State.groupStep; split <;> simp
@[simp] theorem groupStep_channels (s : State) : s.groupStep.channels = s.channels := by
  unfold State.groupStep; split <;> simp
@[simp] theorem groupStep_cthr (s : State) : s.groupStep.cthr = s.cthr := by
  unfold State.groupStep; split <;> simp
@[simp] theorem groupStep_athr (s : State) : s.groupStep.athr = s.athr := by
  unfold State.groupStep; split <;> simp
@[simp] theorem groupStep_width (s : State) : s.groupStep.width = s.width := by
  unfold State.groupStep; split <;> simp
@[simp] theorem groupStep_height (s : State) : s.groupStep.height = s.height := by
  unfold State.groupStep; split <;> simp
@[simp] theorem groupStep_srcBase (s : State) : s.groupStep.srcBase = s.srcBase := by
  unfold State.groupStep; split <;> simp
@[simp] theorem groupStep_srcLen (s : State) : s.groupStep.srcLen = s.srcLen := by
  unfold State.groupStep; split <;> simp
@[simp] theorem groupStep_dstBase (s : State) : s.groupStep.dstBase = s.dstBase := by
  unfold State.groupStep; split <;> simp
@[simp] theorem groupStep_dstLen (s : State) : s.groupStep.dstLen = s.dstLen := by
  unfold State.groupStep; split <;> simp
@[simp] theorem groupStep_pixel (s : State) : s.groupStep.pixel = s.pixel := by
  unfold State.groupStep; split <;> simp
@[simp] theorem groupStep_admits (s : State) : s.groupStep.admits = s.admits := by
  unfold State.groupStep; split <;> simp
@[simp] theorem groupStep_startMem (s : State) : s.groupStep.startMem = s.startMem := by
  unfold State.groupStep; split <;> simp
@[simp] theorem groupStep_raceCount (s : State) : s.groupStep.raceCount = s.raceCount := by
  unfold State.groupStep; split <;> simp
@[simp] theorem groupStep_observed (s : State) : s.groupStep.observed = s.observed := by
  unfold State.groupStep; split <;> simp
@[simp] theorem groupStep_pending (s : State) : s.groupStep.pending = s.pending := by
  unfold State.groupStep; split <;> simp
@[simp] theorem groupStep_fair (s : State) : s.groupStep.fair = s.fair := by
  unfold State.groupStep; split <;> simp

theorem groupStep_mem (s : State) :
    s.groupStep.mem = s.mem.write (groupWrite s s.xg s.y) (groupByte s s.mem s.xg s.y) := by
  unfold State.groupStep; split <;> simp

theorem groupStep_traffic (s : State) :
    s.groupStep.traffic =
      ⟨groupReads s s.xg s.y, groupWrite s s.xg s.y, groupByte s s.mem s.xg s.y⟩ :: s.traffic := by
  unfold State.groupStep; split <;> simp

theorem groupStep_busy (s : State) : s.groupStep.busy = if s.atLastGroup then false else s.busy := by
  unfold State.groupStep; split <;> simp

theorem groupStep_done (s : State) : s.groupStep.done = if s.atLastGroup then true else s.done := by
  unfold State.groupStep; split <;> simp

/-- Packing does not move the cursor, and completing does not either. -/
theorem groupStep_curY (s : State) : s.groupStep.curY = s.advance.curY := by
  have packed : s.packGroup.advance.curY = s.advance.curY := by
    by_cases h : s.xg + 8 < s.w
    · rw [advance_same_row h, advance_same_row (s := s.packGroup) h]; rfl
    · rw [advance_next_row h, advance_next_row (s := s.packGroup) h]; rfl
  unfold State.groupStep; split <;> simp [packed]

theorem groupStep_curXg (s : State) : s.groupStep.curXg = s.advance.curXg := by
  have packed : s.packGroup.advance.curXg = s.advance.curXg := by
    by_cases h : s.xg + 8 < s.w
    · rw [advance_same_row h, advance_same_row (s := s.packGroup) h]; rfl
    · rw [advance_next_row h, advance_next_row (s := s.packGroup) h]
  unfold State.groupStep; split <;> simp [packed]

end Sys2Proof.Machine
end

