-- ==== Sys2Proof/Laws/Ops.lean ====
section
/-! SUPPORT. One lemma per shared operation, saying once everything it can do. Proofs cite these and do not unfold the
operations again. -/

namespace Sys2Proof.Machine

/-! ### Registers and outputs -/

theorem hostRead_next {v : Word} {s t : State} : hostRead v s = .next t ↔ t = s.observe (.hostRead v) := by
  simp [hostRead, eq_comm]

theorem driveMode_next {m : PolicyMode} {s t : State} :
    driveMode m s = .next t ↔ t = s.observe (.pclsPorts (testPcls s m)) := by
  simp [driveMode, eq_comm]

@[simp] theorem unlessBusy_busy {f : State → State} {s : State} (h : s.busy = true) : unlessBusy f s = s := by
  simp [unlessBusy, h]

@[simp] theorem unlessBusy_idle {f : State → State} {s : State} (h : s.busy = false) : unlessBusy f s = f s := by
  simp [unlessBusy, h]

/-- STATUS as a number: five fields, no carry between them. -/
theorem toNat_statusWord (s : State) :
    (statusWord s).toNat = s.errCode.toNat * 2 ^ 8 + s.err.toNat * 4 + s.done.toNat * 2 + s.busy.toNat := by
  have all : ∀ (c : BitVec 4) (e d b : Bool),
      (0#20 ++ (c ++ (0#5 ++ (BitVec.ofBool e ++ (BitVec.ofBool d ++ BitVec.ofBool b)))) : Word).toNat =
        c.toNat * 2 ^ 8 + e.toNat * 4 + d.toNat * 2 + b.toNat := by decide
  exact all s.errCode s.err s.done s.busy

/-- CFG as a number: two fields. -/
theorem toNat_cfgWord (s : State) : (cfgWord s).toNat = s.channels.toNat * 2 ^ 8 + s.mode.toNat := by
  have all : ∀ n m : BitVec 3, (0#21 ++ (n ++ (0#5 ++ m)) : Word).toNat = n.toNat * 2 ^ 8 + m.toNat := by decide
  exact all s.channels s.mode

/-- The bits of CFG. -/
theorem getLsbD_cfgWord (s : State) (i : Nat) :
    (cfgWord s).getLsbD i = if i < 8 then s.mode.getLsbD i else s.channels.getLsbD (i - 8) := by
  have hm := s.mode.isLt
  rw [BitVec.getLsbD, toNat_cfgWord, Nat.mul_comm,
    Nat.testBit_two_pow_mul_add _ (show s.mode.toNat < 2 ^ 8 by omega)]
  rfl

/-- A field of DATA at bit 0, read back zero-extended, is DATA under the field's mask. -/
theorem setWidth_extract_low (data : Word) {n : Nat} {mask : Word}
    (hm : ∀ i : Fin 32, mask.getLsbD i = decide ((i : Nat) < n)) :
    (data.extractLsb' 0 n).setWidth 32 = data &&& mask := by
  refine BitVec.eq_of_getLsbD_eq fun i hi => ?_
  rw [BitVec.getLsbD_and, hm ⟨i, hi⟩]
  simp [hi, Bool.and_comm]

/-- CLASS as a number: four bits. -/
theorem toNat_classWord (o : PclsOut) :
    (classWord o).toNat = o.abit.toNat * 8 + o.cbit.toNat * 4 + o.ok.toNat * 2 + o.bit.toNat := by
  have all : ∀ a c k b : Bool,
      (0#28 ++ (BitVec.ofBool a ++ (BitVec.ofBool c ++ (BitVec.ofBool k ++ BitVec.ofBool b))) : Word).toNat =
        a.toNat * 8 + c.toNat * 4 + k.toNat * 2 + b.toNat := by decide
  exact all o.abit o.cbit o.ok o.bit

/-- BYTES of valid dimensions as a number: the count has 29 bits, so nothing is cut off (10_state R34). -/
theorem toNat_bytesWord {w h : BitVec 16} (hv : dimsValid w h = true) :
    (bytesWord w h).toNat = 2 ^ 31 + w.toNat / 8 * h.toNat ∧ w.toNat / 8 * h.toNat < 2 ^ 29 := by
  have hw := w.isLt
  have hh := h.isLt
  have fits : w.toNat / 8 * h.toNat < 2 ^ 29 := by
    calc w.toNat / 8 * h.toNat ≤ 8191 * 65535 := Nat.mul_le_mul (by omega) (by omega)
      _ < 2 ^ 29 := by norm_num
  refine ⟨?_, fits⟩
  have word : ∀ c : BitVec 29, (1#1 ++ (0#2 ++ c) : BitVec (1 + (2 + 29))).toNat = 2 ^ 31 + c.toNat := by
    intro c
    have hc := c.isLt
    have top : 1 <<< 31 ||| c.toNat = 2 ^ 31 + c.toNat := by
      rw [← Nat.shiftLeft_add_eq_or_of_lt (by omega), Nat.shiftLeft_eq, Nat.one_mul]
    rw [BitVec.toNat_append, BitVec.toNat_append, ← top]
    simp
  have count := word (BitVec.ofNat 29 (w.toNat / 8 * h.toNat))
  rw [BitVec.toNat_ofNat, Nat.mod_eq_of_lt fits] at count
  rw [bytesWord, if_pos hv]
  exact count

/-! ### START -/

/-- What it takes for every check to pass (41_packer R172 to R182). -/
theorem firstViolation_none {s : State} :
    firstViolation s = none ↔
      s.w ≠ 0 ∧ s.h ≠ 0 ∧ s.w % 8 = 0 ∧ s.h % 8 = 0 ∧ s.mode.toNat ≤ 3 ∧ (s.n = 3 ∨ s.n = 4) ∧
        (s.mode.toNat = 3 ∨ s.n = 4) ∧ s.srcBytes ≤ s.srcLen.toNat ∧ s.dstBytes ≤ s.dstLen.toNat ∧
        s.srcBase.toNat + s.srcBytes ≤ Config.addressSpaceSize ∧
        s.dstBase.toNat + s.dstBytes ≤ Config.addressSpaceSize := by
  unfold firstViolation
  split_ifs <;> simp only [true_iff, false_iff] <;> omega

/-- The two ends of a START that finds BUSY = 0. -/
theorem startChecked_cases (s : State) :
    (∃ v, firstViolation s = some v ∧ s.startChecked = s.clearReport.raiseViolation v) ∨
      (firstViolation s = none ∧ s.startChecked = s.clearReport.acceptStart) := by
  unfold State.startChecked
  cases firstViolation s with
  | none => exact .inr ⟨rfl, rfl⟩
  | some v => exact .inl ⟨v, rfl, rfl⟩

/-! ### The engine -/

/-- Everything an engine's turn that answers a next state can do. -/
theorem engineTurn_next {s t : State} (h : engineTurn s = .next t) :
    (s.busy = false ∧ t = s) ∨
      (s.busy = true ∧ s.regionsOverlap = false ∧ (∀ a ∈ s.stepAccesses, a < Config.addressSpaceSize) ∧
        ((∀ a ∈ s.stepAccesses, s.admitted a = true) ∧ t = s.groupStep ∨
          (∃ a ∈ s.stepAccesses, s.admitted a = false) ∧ t = s)) := by
  unfold engineTurn at h
  split_ifs at h with h1 h2 h3 h4
  · exact .inl ⟨by simpa using h1, by simpa [eq_comm] using h⟩
  · refine .inr ⟨by simpa using h1, by simpa using h2, by simpa using h3, .inl ⟨by simpa using h4, ?_⟩⟩
    simpa [eq_comm] using h
  · refine .inr ⟨by simpa using h1, by simpa using h2, by simpa using h3, .inr ⟨by simpa using h4, ?_⟩⟩
    simpa [eq_comm] using h

/-- An engine's turn that is enabled performs the group step. -/
theorem engineTurn_enabled {s : State} (hb : s.busy = true) (ho : s.regionsOverlap = false)
    (hs : ∀ a ∈ s.stepAccesses, a < Config.addressSpaceSize) (ha : ∀ a ∈ s.stepAccesses, s.admitted a = true) :
    engineTurn s = .next s.groupStep := by
  have h3 : (s.stepAccesses.any fun a => decide (Config.addressSpaceSize ≤ a)) = false := by simpa using hs
  have h4 : s.stepAccesses.all s.admitted = true := by simpa using ha
  simp [engineTurn, hb, ho, h3, h4]

/-- An engine's turn with an access that is not admitted changes nothing (20_memory R80). -/
theorem engineTurn_stuck {s : State} (hb : s.busy = true) (ho : s.regionsOverlap = false)
    (hs : ∀ a ∈ s.stepAccesses, a < Config.addressSpaceSize) (ha : ∃ a ∈ s.stepAccesses, s.admitted a = false) :
    engineTurn s = .next s := by
  have h3 : (s.stepAccesses.any fun a => decide (Config.addressSpaceSize ≤ a)) = false := by simpa using hs
  have h4 : s.stepAccesses.all s.admitted = false := by simpa using ha
  simp [engineTurn, hb, ho, h3, h4]

/-- An idle engine's turn changes nothing (60_exceptions R273). -/
theorem engineTurn_idle {s : State} (hb : s.busy = false) : engineTurn s = .next s := by
  simp [engineTurn, hb]

/-- Everything that can happen when no event is pending. -/
theorem unlistedTurn_next {s t : State} (h : unlistedTurn s = .next t) :
    (s.fair = true ∧ engineTurn s = .next t) ∨ (s.fair = false ∧ t = s) := by
  unfold unlistedTurn at h
  split_ifs at h with hf
  · exact .inl ⟨hf, h⟩
  · exact .inr ⟨by simpa using hf, by simpa [eq_comm] using h⟩

/-- A weakly fair schedule gives the Engine the turn. -/
theorem unlistedTurn_fair {s : State} (h : s.fair = true) : unlistedTurn s = engineTurn s := if_pos h

/-- Under an unfair schedule nothing happens any more. -/
theorem unlistedTurn_unfair {s : State} (h : s.fair = false) : unlistedTurn s = .next s := by
  simp [unlistedTurn, h]

/-! ### The platform -/

/-- Everything a load can do. -/
theorem platformLoad_next {addr : Word} {s t : State} (h : platformLoad addr s = .next t) :
    (s.busy = true ∧ s.inDst addr.toNat = true ∧ s.regionsOverlap = false ∧
        t = s.countRace.observe (.platformRead (racingByte s addr.toNat))) ∨
      ((s.busy = false ∨ s.inDst addr.toNat = false) ∧
        t = s.observe (.platformRead (s.mem.read addr.toNat))) := by
  unfold platformLoad at h
  split_ifs at h with h1 h2
  · rw [Bool.and_eq_true] at h1
    exact .inl ⟨h1.1, h1.2, by simpa using h2, by simpa [eq_comm] using h⟩
  · refine .inr ⟨?_, by simpa [eq_comm] using h⟩
    cases hb : s.busy <;> simp_all

/-- Everything a store can do. -/
theorem platformStore_next {addr : Word} {v : Byte} {s t : State} (h : platformStore addr v s = .next t) :
    (s.busy = false ∨ s.inSrc addr.toNat = false ∧ s.inDst addr.toNat = false) ∧
      t = s.storeByte addr.toNat v := by
  unfold platformStore at h
  split_ifs at h with h1
  refine ⟨?_, by simpa [eq_comm] using h⟩
  cases hb : s.busy <;> simp_all

/-! ### Instructions and steps -/

/-- A write to one of the nine configuration registers. -/
def ConfigWrite (s t : State) : Prop :=
  ∃ d, t = s.setCfg d ∨ t = s.setCthr d ∨ t = s.setAthr d ∨ t = s.setWidth d ∨ t = s.setHeight d ∨
    t = s.setSrcBase d ∨ t = s.setSrcLen d ∨ t = s.setDstBase d ∨ t = s.setDstLen d

/-- Everything an instruction can do. -/
theorem exec_next {i : Instr} {s t : State} (h : exec i s = .next t) :
    t = s ∨ (∃ o, t = s.observe o) ∨ (∃ d, t = s.setPixel d) ∨
      (s.busy = false ∧ (ConfigWrite s t ∨ ((∃ d, i = .wrCtrlStart d) ∧ t = s.startChecked))) := by
  have frozen : ∀ f : State → State, .next (unlessBusy f s) = (.next t : Result) →
      t = s ∨ (s.busy = false ∧ t = f s) := by
    intro f hf
    simp only [Host.Outcome.next.injEq] at hf
    cases hb : s.busy with
    | true => exact .inl (by rw [← hf, unlessBusy_busy hb])
    | false => exact .inr ⟨rfl, by rw [← hf, unlessBusy_idle hb]⟩
  cases i
  all_goals first
    | exact .inr (.inl ⟨_, hostRead_next.mp h⟩)
    | exact .inr (.inl ⟨_, driveMode_next.mp h⟩)
    | exact .inl (by simpa [exec, eq_comm] using h)
    | skip
  case wrId => exact .inl (Host.Outcome.next.inj h).symm
  case wrCtrlNop => exact .inl (Host.Outcome.next.inj h).symm
  case wrStatus => exact .inl (Host.Outcome.next.inj h).symm
  case wrBytes => exact .inl (Host.Outcome.next.inj h).symm
  case wrClass => exact .inl (Host.Outcome.next.inj h).symm
  case wrRsv15 => exact .inl (Host.Outcome.next.inj h).symm
  case wrPixel d => exact .inr (.inr (.inl ⟨d, (Host.Outcome.next.inj h).symm⟩))
  case wrCtrlStart d =>
    rcases frozen _ h with h | ⟨hb, h⟩
    · exact .inl h
    · exact .inr (.inr (.inr ⟨hb, .inr ⟨⟨d, rfl⟩, h⟩⟩))
  all_goals
    rename_i d
    rcases frozen _ h with h | ⟨hb, h⟩
    · exact .inl h
    · exact .inr (.inr (.inr ⟨hb, .inl ⟨d, by simp only [h]; tauto⟩⟩))

/-- A step is the next event's, or, with none pending, the schedule's. -/
theorem step_cases (s : State) :
    (s.pending = [] ∧ step s = unlistedTurn s) ∨
      (∃ e rest, s.pending = e :: rest ∧ step s = handle e (s.withPending rest)) := by
  cases h : s.pending with
  | nil => exact .inl ⟨rfl, by simp [step, h]⟩
  | cons e rest => exact .inr ⟨e, rest, rfl, by simp [step, h]⟩

/-- An engine's turn leaves the events to come, the schedule and MEM_ADMITS. -/
theorem engineTurn_frame {s t : State} (h : engineTurn s = .next t) :
    t.pending = s.pending ∧ t.fair = s.fair ∧ t.admits = s.admits := by
  rcases engineTurn_next h with ⟨-, rfl⟩ | ⟨-, -, -, ⟨-, rfl⟩ | ⟨-, rfl⟩⟩ <;> simp

/-- An instruction leaves the events to come, the schedule and MEM_ADMITS. -/
theorem exec_frame {i : Instr} {s t : State} (h : exec i s = .next t) :
    t.pending = s.pending ∧ t.fair = s.fair ∧ t.admits = s.admits := by
  rcases exec_next h with rfl | ⟨o, rfl⟩ | ⟨d, rfl⟩ | ⟨-, ⟨d, hd⟩ | ⟨-, rfl⟩⟩
  · simp
  · simp
  · simp
  · rcases hd with rfl | rfl | rfl | rfl | rfl | rfl | rfl | rfl | rfl <;> simp
  · rcases startChecked_cases s with ⟨v, -, h⟩ | ⟨-, h⟩ <;> simp [h]

/-- A step takes the first event off the list, and leaves the schedule after it and MEM_ADMITS as they are. -/
theorem step_frame {s t : State} (h : step s = .next t) :
    t.pending = s.pending.tail ∧ t.fair = s.fair ∧ t.admits = s.admits := by
  rcases step_cases s with ⟨hp, hs⟩ | ⟨e, rest, hp, hs⟩ <;> rw [hs] at h <;> simp only [hp, List.tail_nil, List.tail_cons]
  · rcases unlistedTurn_next h with ⟨-, h⟩ | ⟨-, rfl⟩
    · simpa [hp] using engineTurn_frame h
    · simp [hp]
  · cases e with
    | engine => simpa using engineTurn_frame (s := s.withPending rest) h
    | reset => rw [← Host.Outcome.next.inj h]; simp
    | load a => rcases platformLoad_next h with ⟨-, -, -, rfl⟩ | ⟨-, rfl⟩ <;> simp
    | store a v =>
      obtain ⟨-, rfl⟩ := platformStore_next h
      simp
    | txn w => simpa using exec_frame (s := s.withPending rest) h
    | port w o d => simpa using exec_frame (s := s.withPending rest) h
    | modeCode m => simpa using exec_frame (s := s.withPending rest) h

/-- A run of `k + 1` steps whose first answers a next state. -/
theorem run_succ {s t : State} (h : step s = .next t) (k : Nat) : core.run (k + 1) s = core.run k t := by
  simp only [Host.Core.run, show core.step s = .next t from h]

/-- A state whose step leads back to it stays for ever. -/
theorem run_fixed {s : State} (h : step s = .next s) (k : Nat) : core.run k s = .next s := by
  induction k with
  | zero => rfl
  | succ k ih => rw [run_succ h, ih]

end Sys2Proof.Machine
end

