-- ==== Sys2Proof/Laws/Engine.lean ====
section
/-! SUPPORT. The engine's arithmetic: the bits of a packed byte, where a group's accesses lie, and what the cursor
does. Stated once, over the numbers W, H and n of 41_packer. -/

namespace Sys2Proof.Machine

/-! ### The packed byte -/

theorem getLsbD_bitAt (b : Bool) {pos i : Nat} (hp : pos < 8) (hi : i < 8) :
    (bitAt b pos).getLsbD i = (b && decide (i = pos)) := by
  revert b
  interval_cases pos <;> interval_cases i <;> decide

/-- Bit `pos` of a group's byte is the bit of pixel `xg + pos` (41_packer R187). -/
theorem getLsbD_groupByte (s : State) (m : Memory) (xg y : Nat) {pos : Nat} (h : pos < 8) :
    (groupByte s m xg y).getLsbD pos = pixelBit s m (xg + pos) y := by
  have range8 : List.range 8 = [0, 1, 2, 3, 4, 5, 6, 7] := rfl
  simp only [groupByte, range8, List.foldl_cons, List.foldl_nil, BitVec.getLsbD_or]
  simp only [getLsbD_bitAt _ (show 0 < 8 by omega) h, getLsbD_bitAt _ (show 1 < 8 by omega) h,
    getLsbD_bitAt _ (show 2 < 8 by omega) h, getLsbD_bitAt _ (show 3 < 8 by omega) h,
    getLsbD_bitAt _ (show 4 < 8 by omega) h, getLsbD_bitAt _ (show 5 < 8 by omega) h,
    getLsbD_bitAt _ (show 6 < 8 by omega) h, getLsbD_bitAt _ (show 7 < 8 by omega) h]
  interval_cases pos <;> simp

/-- The addresses of the pixel reads are the `n` consecutive bytes of the pixel (20_memory R62). -/
theorem mem_pixelReads {s : State} (hn : s.n = 3 ∨ s.n = 4) {x y a : Nat} :
    a ∈ pixelReads s x y ↔ pixelAddr s x y ≤ a ∧ a < pixelAddr s x y + s.n := by
  unfold pixelReads
  rcases hn with hn | hn <;> simp [hn] <;> omega

/-- Reading the pixel's bytes from two memories that agree on them gives the same bit. -/
theorem pixelBit_congr {s : State} (hn : s.n = 3 ∨ s.n = 4) {m k : Memory} {x y : Nat}
    (h : ∀ a ∈ pixelReads s x y, m.read a = k.read a) : pixelBit s m x y = pixelBit s k x y := by
  have h0 := h (pixelAddr s x y) (by rw [mem_pixelReads hn]; omega)
  have h1 := h (pixelAddr s x y + 1) (by rw [mem_pixelReads hn]; omega)
  have h2 := h (pixelAddr s x y + 2) (by rw [mem_pixelReads hn]; omega)
  unfold pixelBit
  by_cases h4 : s.n = 4
  · have h3 := h (pixelAddr s x y + 3) (by rw [mem_pixelReads hn]; omega)
    simp only [h4, if_true, h0, h1, h2, h3]
  · simp only [h4, if_false, h0, h1, h2]

/-! ### Where pixels and groups lie -/

theorem inSrc_iff {s : State} {a : Nat} :
    s.inSrc a = true ↔ s.srcBase.toNat ≤ a ∧ a < s.srcBase.toNat + s.srcBytes := by
  simp [State.inSrc]

theorem inDst_iff {s : State} {a : Nat} :
    s.inDst a = true ↔ s.dstBase.toNat ≤ a ∧ a < s.dstBase.toNat + s.dstBytes := by
  simp [State.inDst]

/-- Regions that do not overlap share no byte (20_memory R74). -/
theorem regions_apart {s : State} (h : s.regionsOverlap = false) {a : Nat} (hs : s.inSrc a = true) :
    s.inDst a = false := by
  rw [inSrc_iff] at hs
  rw [Bool.eq_false_iff, ne_eq, inDst_iff]
  simp only [State.regionsOverlap, Bool.and_eq_false_iff, decide_eq_false_iff_not] at h
  omega

/-- The pixels of the image lie inside the SRC region (20_memory R62, R67). -/
theorem pixelReads_inSrc {s : State} (hn : s.n = 3 ∨ s.n = 4) {x y a : Nat} (hx : x < s.w) (hy : y < s.h)
    (ha : a ∈ pixelReads s x y) : s.inSrc a = true := by
  rw [mem_pixelReads hn] at ha
  simp only [pixelAddr] at ha
  have row : y * s.w + x + 1 ≤ s.h * s.w := by
    calc y * s.w + x + 1 ≤ y * s.w + s.w := by omega
      _ = (y + 1) * s.w := by ring
      _ ≤ s.h * s.w := Nat.mul_le_mul_right _ hy
  have bytes : (y * s.w + x) * s.n + s.n ≤ s.srcBytes := by
    calc (y * s.w + x) * s.n + s.n = (y * s.w + x + 1) * s.n := by ring
      _ ≤ s.h * s.w * s.n := Nat.mul_le_mul_right _ row
      _ = s.srcBytes := by simp only [State.srcBytes]; ring
  rw [inSrc_iff]
  omega

/-- What a legal conversion gives: the numbers the checks of START left (41_packer R172). -/
theorem conversion_numbers {s : State} (h : s.ConversionLegal) (hb : s.busy = true) :
    0 < s.w ∧ 0 < s.h ∧ s.w % 8 = 0 ∧ (s.n = 3 ∨ s.n = 4) ∧ s.y < s.h ∧ s.xg < s.w ∧
      s.srcBase.toNat + s.srcBytes ≤ Config.addressSpaceSize ∧
      s.dstBase.toNat + s.dstBytes ≤ Config.addressSpaceSize := by
  obtain ⟨hv, hy, hx⟩ := h hb
  obtain ⟨h1, h2, h3, -, -, h6, -, -, -, h10, h11⟩ := firstViolation_none.mp hv
  exact ⟨by omega, by omega, h3, h6, hy, hx, h10, h11⟩

/-- The number of a group below the row's end stays below the number of groups (41_packer R188). -/
theorem group_lt {w h y g : Nat} (hy : y < h) (hg : g < w) : y * w + g < w * h := by
  calc y * w + g < y * w + w := by omega
    _ = (y + 1) * w := by ring
    _ ≤ h * w := Nat.mul_le_mul_right _ hy
    _ = w * h := Nat.mul_comm _ _

/-- The groups taken are fewer than the groups there are, while BUSY = 1. -/
theorem groupsDone_lt {s : State} (hw : s.w % 8 = 0) (hy : s.y < s.h) (hx : s.xg < s.w) : s.groupsDone < s.dstBytes :=
  group_lt hy (by omega)

/-- The group at the cursor is the group of that number. -/
theorem group_of_cursor {s : State} (ha : s.CursorAligned) (hw : s.w % 8 = 0) (hx : s.xg < s.w) :
    groupColumn s s.groupsDone = s.xg ∧ groupRow s s.groupsDone = s.y := by
  have h8 : s.xg / 8 < s.w / 8 := by omega
  have hmod : s.groupsDone % (s.w / 8) = s.xg / 8 := by
    rw [State.groupsDone, Nat.mul_comm, Nat.mul_add_mod, Nat.mod_eq_of_lt h8]
  have hdiv : s.groupsDone / (s.w / 8) = s.y := by
    rw [State.groupsDone, Nat.mul_comm, Nat.mul_add_div (by omega), Nat.div_eq_of_lt h8, Nat.add_zero]
  have hal : s.xg % 8 = 0 := ha
  refine ⟨?_, hdiv⟩
  rw [groupColumn, hmod]
  omega

/-- Every address the next group step would access is in its region. -/
theorem stepAccesses_regions {s : State} (hl : s.ConversionLegal) (ha : s.CursorAligned) (hb : s.busy = true) :
    (∀ a ∈ groupReads s s.xg s.y, s.inSrc a = true) ∧ s.inDst (groupWrite s s.xg s.y) = true := by
  obtain ⟨-, -, hw, hn, hy, hx, -, -⟩ := conversion_numbers hl hb
  have hal : s.xg % 8 = 0 := ha
  constructor
  · intro a hmem
    simp only [groupReads, List.mem_flatMap, List.mem_range] at hmem
    obtain ⟨pos, hp, hmem⟩ := hmem
    exact pixelReads_inSrc hn (by omega) hy hmem
  · have := groupsDone_lt hw hy hx
    simp only [State.groupsDone] at this
    rw [inDst_iff, groupWrite]
    omega

/-- So no address of a legal conversion is outside the address space (20_memory R69). -/
theorem stepAccesses_below {s : State} (hl : s.ConversionLegal) (ha : s.CursorAligned) (hb : s.busy = true) :
    ∀ a ∈ s.stepAccesses, a < Config.addressSpaceSize := by
  obtain ⟨-, -, -, -, -, -, hs, hd⟩ := conversion_numbers hl hb
  obtain ⟨h1, h2⟩ := stepAccesses_regions hl ha hb
  intro a hmem
  simp only [State.stepAccesses, List.mem_append, List.mem_singleton] at hmem
  rcases hmem with hmem | rfl
  · have := h1 a hmem
    rw [inSrc_iff] at this
    omega
  · rw [inDst_iff] at h2
    omega

/-! ### The cursor -/

/-- The cursor after a group, as numbers: W and H have 16 bits, so nothing is cut off (10_state R39). -/
theorem advance_cursor {s : State} (hy : s.y < s.h) :
    (s.xg + 8 < s.w ∧ s.advance.xg = s.xg + 8 ∧ s.advance.y = s.y) ∨
      (¬ s.xg + 8 < s.w ∧ s.advance.xg = 0 ∧ s.advance.y = s.y + 1) := by
  have hw := s.width.isLt
  have hh := s.height.isLt
  simp only [State.w, State.h] at *
  by_cases h : s.xg + 8 < s.width.toNat
  · refine .inl ⟨h, ?_, ?_⟩
    · rw [advance_same_row h]
      simp only [State.xg, BitVec.toNat_ofNat] at *
      omega
    · rw [advance_same_row h]
      rfl
  · refine .inr ⟨h, ?_, ?_⟩
    · rw [advance_next_row h]
      rfl
    · rw [advance_next_row h]
      simp only [State.y, BitVec.toNat_ofNat] at *
      omega

/-- Each group step takes the conversion one group further (41_packer R188). -/
theorem advance_groupsDone {s : State} (ha : s.CursorAligned) (hw : s.w % 8 = 0) (hy : s.y < s.h) (hx : s.xg < s.w) :
    s.advance.groupsDone = s.groupsDone + 1 := by
  have hal : s.xg % 8 = 0 := ha
  have same : s.advance.w = s.w := by simp [State.w]
  rcases advance_cursor hy with ⟨h, h1, h2⟩ | ⟨h, h1, h2⟩
  · simp only [State.groupsDone, same, h1, h2]
    omega
  · have : s.xg / 8 + 1 = s.w / 8 := by omega
    simp only [State.groupsDone, same, h1, h2, Nat.add_mul, Nat.zero_div]
    omega

/-- The last group is the one with that number (41_packer R188). -/
theorem atLastGroup_iff {s : State} (ha : s.CursorAligned) (hw : s.w % 8 = 0) (hy : s.y < s.h) (hx : s.xg < s.w) :
    s.atLastGroup = true ↔ s.groupsDone + 1 = s.dstBytes := by
  have hal : s.xg % 8 = 0 := ha
  simp only [State.atLastGroup, Bool.and_eq_true, decide_eq_true_eq, State.groupsDone, State.dstBytes]
  constructor
  · rintro ⟨h1, h2⟩
    have : s.xg / 8 + 1 = s.w / 8 := by omega
    rw [← h1, Nat.mul_add, Nat.mul_one, Nat.mul_comm (s.w / 8) s.y]
    omega
  · intro h
    have hrow : s.y + 1 = s.h := by
      by_contra hne
      have := group_lt (w := s.w / 8) (show s.y + 1 < s.h by omega) (show 0 < s.w / 8 by omega)
      simp only [Nat.add_mul, Nat.one_mul] at this
      omega
    rw [← hrow, Nat.mul_add, Nat.mul_one, Nat.mul_comm (s.w / 8) s.y] at h
    omega

end Sys2Proof.Machine
end

