-- ==== Sys2Proof/Laws/Conversion.lean ====
section
/-! SUPPORT. What one group step does to a conversion, said once: the byte it writes, the bytes it leaves, the access it
makes, and where the cursor goes. And that what is said of a conversion depends on its configuration alone. -/

namespace Sys2Proof.Machine

/-! ### The configuration of a conversion -/

/-- `t` has the configuration of `s`, and the memory at the START of `s`. -/
structure SameConversion (s t : State) : Prop where
  mode : t.mode = s.mode
  channels : t.channels = s.channels
  cthr : t.cthr = s.cthr
  athr : t.athr = s.athr
  width : t.width = s.width
  height : t.height = s.height
  srcBase : t.srcBase = s.srcBase
  srcLen : t.srcLen = s.srcLen
  dstBase : t.dstBase = s.dstBase
  dstLen : t.dstLen = s.dstLen
  startMem : t.startMem = s.startMem

variable {s t : State}

theorem sameConversion_groupStep (s : State) : SameConversion s s.groupStep := by
  constructor <;> simp

theorem SameConversion.firstViolation_eq (h : SameConversion s t) : firstViolation t = firstViolation s := by
  simp only [firstViolation, State.srcBytes, State.dstBytes, State.w, State.h, State.n, h.mode, h.channels, h.width,
    h.height, h.srcBase, h.srcLen, h.dstBase, h.dstLen]
  rfl

theorem SameConversion.finalByte_eq (h : SameConversion s t) (k : Nat) : finalByte t k = finalByte s k := by
  simp only [finalByte, groupByte, pixelBit, pixelAddr, State.w, State.n, h.mode, h.channels, h.cthr, h.athr, h.width,
    h.srcBase, h.startMem]
  rfl

theorem SameConversion.groupAccess_eq (h : SameConversion s t) : groupAccess t = groupAccess s := by
  funext k
  simp only [groupAccess, h.finalByte_eq, groupReads, pixelReads, groupColumn, groupRow, pixelAddr, State.w, State.n,
    h.channels, h.width, h.srcBase, h.dstBase]
  rfl

theorem SameConversion.inSrc_eq (h : SameConversion s t) (a : Nat) : t.inSrc a = s.inSrc a := by
  simp only [State.inSrc, State.srcBytes, State.w, State.h, State.n, h.channels, h.width, h.height, h.srcBase]
  rfl

theorem SameConversion.dstBytes_eq (h : SameConversion s t) : t.dstBytes = s.dstBytes := by
  simp only [State.dstBytes, State.w, State.h, h.width, h.height]

/-- A state stays good where nothing a conversion is about changes. -/
theorem Good_of_sameConversion (h : SameConversion s t) (hm : t.mem = s.mem) (hb : t.busy = s.busy)
    (hx : t.curXg = s.curXg) (hy : t.curY = s.curY) (ht : t.traffic = s.traffic) (hg : s.Good) : t.Good := by
  have hd : t.groupsDone = s.groupsDone := by
    simp only [State.groupsDone, State.y, State.xg, State.w, hx, hy, h.width]
  refine ⟨?_, ?_, ?_, ?_, ?_⟩
  · show t.curXg.toNat % 8 = 0
    rw [hx]
    exact hg.aligned
  · intro b
    have legal := hg.legal (hb ▸ b)
    simp only [h.firstViolation_eq, State.y, State.xg, State.w, State.h, hx, hy, h.width, h.height] at *
    exact legal
  · intro b a ha
    rw [hm, h.startMem]
    exact hg.source (hb ▸ b) a (by rwa [h.inSrc_eq] at ha)
  · intro b k hk
    rw [hm, h.startMem, h.dstBase, hd, h.finalByte_eq]
    exact hg.destination (hb ▸ b) k (by rwa [h.dstBytes_eq] at hk)
  · intro b
    rw [ht, hd, h.groupAccess_eq]
    exact hg.traffic (hb ▸ b)

/-- With BUSY = 0 a state with an aligned cursor is good. -/
theorem Good_of_idle (h : t.busy = false) (ha : t.CursorAligned) : t.Good := by
  refine ⟨ha, ?_, ?_, ?_, ?_⟩
  all_goals
    intro hb
    simp [h] at hb

/-! ### One group step -/

/-- A group's byte depends on the group's source bytes alone. -/
theorem groupByte_congr (hn : s.n = 3 ∨ s.n = 4) {m k : Memory} {xg y : Nat}
    (h : ∀ a ∈ groupReads s xg y, m.read a = k.read a) : groupByte s m xg y = groupByte s k xg y := by
  refine BitVec.eq_of_getLsbD_eq fun i hi => ?_
  rw [getLsbD_groupByte _ _ _ _ hi, getLsbD_groupByte _ _ _ _ hi]
  refine pixelBit_congr hn fun a ha => h a ?_
  simp only [groupReads, List.mem_flatMap, List.mem_range]
  exact ⟨i, hi, ha⟩

/-- While the source is as it was at the START, the byte of the group at the cursor is its final value. -/
theorem groupByte_cursor (hg : s.Good) (hb : s.busy = true) :
    groupByte s s.mem s.xg s.y = finalByte s s.groupsDone := by
  obtain ⟨-, -, hw, hn, -, hx, -, -⟩ := conversion_numbers hg.legal hb
  obtain ⟨column, row⟩ := group_of_cursor hg.aligned hw hx
  have final : finalByte s s.groupsDone =
      groupByte s s.startMem (groupColumn s s.groupsDone) (groupRow s s.groupsDone) := rfl
  rw [final, column, row]
  exact groupByte_congr hn fun a ha => hg.source hb a ((stepAccesses_regions hg.legal hg.aligned hb).1 a ha)

/-- Everything a group step does to a good state. -/
theorem groupStep_facts (hm : s.MemoryCanonical) (hg : s.Good) (hb : s.busy = true) :
    s.groupStep.MemoryCanonical ∧ s.groupStep.groupsDone = s.groupsDone + 1 ∧
      s.groupStep.mem = s.mem.write (s.dstBase.toNat + s.groupsDone) (finalByte s s.groupsDone) ∧
      s.groupStep.traffic = groupAccess s s.groupsDone :: s.traffic ∧
      (s.atLastGroup = true ↔ s.groupsDone + 1 = s.dstBytes) ∧
      (s.atLastGroup = true → s.groupStep.curY = s.height ∧ s.groupStep.curXg = 0#16) := by
  obtain ⟨-, -, hw, hn, hy, hx, -, -⟩ := conversion_numbers hg.legal hb
  obtain ⟨column, row⟩ := group_of_cursor hg.aligned hw hx
  have below : groupWrite s s.xg s.y < Config.addressSpaceSize :=
    stepAccesses_below hg.legal hg.aligned hb _ (by simp [State.stepAccesses])
  have sameX : s.groupStep.xg = s.advance.xg := by simp [State.xg, groupStep_curXg]
  have sameY : s.groupStep.y = s.advance.y := by simp [State.y, groupStep_curY]
  refine ⟨⟨?_, ?_⟩, ?_, ?_, ?_, atLastGroup_iff hg.aligned hw hy hx, fun last => ?_⟩
  · rw [groupStep_mem]
    exact wf_write hm.1 below _
  · rw [groupStep_startMem]
    exact hm.2
  · rw [← advance_groupsDone hg.aligned hw hy hx]
    simp [State.groupsDone, sameX, sameY, State.w]
  · rw [groupStep_mem, groupByte_cursor hg hb]
    rfl
  · rw [groupStep_traffic, groupByte_cursor hg hb, groupAccess, column, row]
    rfl
  · simp only [State.atLastGroup, Bool.and_eq_true, decide_eq_true_eq] at last
    rcases advance_cursor hy with ⟨h1, -, -⟩ | ⟨-, h2, h3⟩
    · omega
    · refine ⟨BitVec.eq_of_toNat_eq ?_, BitVec.eq_of_toNat_eq ?_⟩
      · show s.groupStep.y = s.h
        omega
      · show s.groupStep.xg = 0
        omega

end Sys2Proof.Machine
end

