-- ==== Sys2Proof/Laws/Decode.lean ====
section
/-! SUPPORT. The fields of a word the encoder builds, and the register map both ways. -/

namespace Sys2Proof

/-- The number of a word the encoder builds: the sum of its fields never overflows 37 bits. -/
theorem toNat_txnWord (we : Bool) (idx : BitVec 4) (data : Word) :
    (txnWord we idx data).toNat = we.toNat * 2 ^ 36 + idx.toNat * 2 ^ 32 + data.toNat := by
  have h1 := idx.isLt
  have h2 := data.isLt
  have h3 : we.toNat ≤ 1 := Bool.toNat_le we
  simp only [txnWord, BitVec.toNat_ofNat]
  omega

theorem toNat_txnIdx (w : BitVec 37) : (txnIdx w).toNat = w.toNat / 2 ^ 32 % 2 ^ 4 := by
  simp [txnIdx, BitVec.extractLsb'_toNat, Nat.shiftRight_eq_div_pow]

theorem toNat_txnData (w : BitVec 37) : (txnData w).toNat = w.toNat % 2 ^ 32 := by
  simp [txnData, BitVec.extractLsb'_toNat]

theorem toNat_txnWe (w : BitVec 37) : (txnWe w).toNat = w.toNat / 2 ^ 36 := by
  have h := w.isLt
  have : w.toNat / 2 ^ 36 < 2 := by omega
  simp only [txnWe, BitVec.getLsbD, Nat.testBit_eq_decide_div_mod_eq]
  by_cases h1 : w.toNat / 2 ^ 36 % 2 = 1 <;> simp only [h1, decide_true, decide_false, Bool.toNat_true, Bool.toNat_false] <;>
    omega

@[simp] theorem txnWe_txnWord (we : Bool) (idx : BitVec 4) (data : Word) : txnWe (txnWord we idx data) = we := by
  have h := toNat_txnWe (txnWord we idx data)
  have h1 := idx.isLt
  have h2 := data.isLt
  rw [toNat_txnWord] at h
  cases we <;> cases h3 : txnWe (txnWord _ idx data) <;> simp only [h3, Bool.toNat_true, Bool.toNat_false] at h ⊢ <;>
    omega

@[simp] theorem txnIdx_txnWord (we : Bool) (idx : BitVec 4) (data : Word) : txnIdx (txnWord we idx data) = idx := by
  refine BitVec.eq_of_toNat_eq ?_
  have h1 := idx.isLt
  have h2 := data.isLt
  rw [toNat_txnIdx, toNat_txnWord]
  omega

@[simp] theorem txnData_txnWord (we : Bool) (idx : BitVec 4) (data : Word) :
    txnData (txnWord we idx data) = data := by
  refine BitVec.eq_of_toNat_eq ?_
  have h2 := data.isLt
  rw [toNat_txnData, toNat_txnWord]
  omega

/-- A word is the word of its three fields. -/
theorem txnWord_fields (w : BitVec 37) : txnWord (txnWe w) (txnIdx w) (txnData w) = w := by
  refine BitVec.eq_of_toNat_eq ?_
  have h := w.isLt
  rw [toNat_txnWord, toNat_txnWe, toNat_txnIdx, toNat_txnData]
  omega

/-- The bits of a word the encoder builds. -/
theorem getLsbD_txnWord (we : Bool) (idx : BitVec 4) (data : Word) {i : Nat} (hi : i < 37) :
    (txnWord we idx data).getLsbD i =
      if i < 32 then data.getLsbD i else if i < 36 then idx.getLsbD (i - 32) else we := by
  split_ifs with h1 h2
  · conv_rhs => rw [← txnData_txnWord we idx data]
    simp [txnData, h1]
  · conv_rhs => rw [← txnIdx_txnWord we idx data]
    simp [txnIdx, show i - 32 < 4 by omega, show 32 + (i - 32) = i by omega]
  · obtain rfl : i = 36 := by omega
    exact txnWe_txnWord we idx data

/-- The mask of most table rows keeps WE and IDX. -/
theorem and_rowMask (w : BitVec 37) : w &&& 0x1F00000000#37 = txnWord (txnWe w) (txnIdx w) 0#32 := by
  have mask : ∀ i : Fin 37, (0x1F00000000#37).getLsbD i = decide (32 ≤ (i : Nat)) := by decide
  refine BitVec.eq_of_getLsbD_eq fun i hi => ?_
  rw [BitVec.getLsbD_and, mask ⟨i, hi⟩, getLsbD_txnWord _ _ _ hi]
  conv_lhs => rw [← txnWord_fields w, getLsbD_txnWord _ _ _ hi]
  split_ifs with h1 h2 <;> simp [show (32 ≤ i) = ¬ i < 32 by simp, h1]

/-- The mask of the two rows of a CTRL write keeps WE, IDX and DATA[0]. -/
theorem and_ctrlMask (w : BitVec 37) :
    w &&& 0x1F00000001#37 = txnWord (txnWe w) (txnIdx w) (if (txnData w).getLsbD 0 then 1#32 else 0#32) := by
  have mask : ∀ i : Fin 37, (0x1F00000001#37).getLsbD i = (decide (32 ≤ (i : Nat)) || decide ((i : Nat) = 0)) := by
    decide
  refine BitVec.eq_of_getLsbD_eq fun i hi => ?_
  rw [BitVec.getLsbD_and, mask ⟨i, hi⟩, getLsbD_txnWord _ _ _ hi]
  conv_lhs => rw [← txnWord_fields w, getLsbD_txnWord _ _ _ hi]
  split_ifs with h1 h2 h3
  · by_cases h0 : i = 0
    · subst h0; simpa using h2
    · simp [show ¬ 32 ≤ i by omega, h0, BitVec.getLsbD_one]
  · by_cases h0 : i = 0
    · subst h0; simpa using h2
    · simp [show ¬ 32 ≤ i by omega, h0]
  all_goals simp [show 32 ≤ i by omega]

@[simp] theorem regOfIndex_index (r : RegName) : regOfIndex r.index = r := by
  cases r <;> rfl

@[simp] theorem index_regOfIndex (i : BitVec 4) : (regOfIndex i).index = i := by
  revert i; decide

end Sys2Proof
end

