-- ==== Sys2Proof/Laws/Pcls.lean ====
section
/-! SUPPORT. The classifier's comparisons as comparisons of natural numbers. -/

namespace Sys2Proof.Machine

/-- The sum of three bytes fits its 10 bits (40_classifier R132). -/
theorem toNat_colorSum (r g b : Byte) : (colorSum r g b).toNat = r.toNat + g.toNat + b.toNat := by
  have hr := r.isLt
  have hg := g.isLt
  have hb := b.isLt
  simp only [colorSum, BitVec.toNat_add, BitVec.toNat_setWidth]
  omega

theorem colorBit_eq (r g b : Byte) (cthr : BitVec 10) :
    colorBit r g b cthr = decide (r.toNat + g.toNat + b.toNat > cthr.toNat) := by
  rw [colorBit, BitVec.ult, toNat_colorSum]

theorem alphaBit_eq (a : Byte) (athr : BitVec 8) : alphaBit a athr = decide (a.toNat > athr.toNat) := by
  rw [alphaBit, BitVec.ult]

end Sys2Proof.Machine
end

