-- ==== Sys2Proof/Tests/Slice0.lean ====
section
/-! SUPPORT. Tests on fixed values: words written out from 30_encoding and the tables of 95_test_vectors, whose expected
results they take; and one witness for each obligation that has hypotheses. -/

namespace Sys2Proof.Tests

open Sys2Proof.Machine

/-! ### Helpers -/

/-- The next state of an answer, if it is one. -/
def after : Result → Option State
  | .next s => some s
  | .fault _ => none
  | .refused _ => none

/-- What the outside saw last, if the answer is a next state. -/
def seen (r : Result) : Option Output := (after r).bind fun s => s.observed.head?

/-- The base configuration of the START checks of 95_test_vectors. -/
def base : State :=
  { State.reset with
    width := 8#16, height := 8#16, srcBase := 0x1000#32, srcLen := 256#32, dstBase := 0x2000#32, dstLen := 8#32 }

/-- The configuration of the data path vectors of 95_test_vectors, with pixels (0,0) and (7,0) on (DP3 and DP4). -/
def image : State :=
  { base with
    mode := 3#3, channels := 3#3, srcLen := 192#32,
    mem := [(0x1000, 0xFF#8), (0x1001, 0xFF#8), (0x1002, 0xFF#8), (0x1015, 0xFF#8), (0x1016, 0xFF#8), (0x1017, 0xFF#8),
      (0x2000, 0xAA#8), (0x2001, 0xBB#8)] }

/-- `image` right after its START was accepted. -/
def busyImage : State := { image with busy := true, startMem := image.mem }

/-- `image` after the first group step: byte 0 of DST is 0x81. -/
def busyRow1 : State :=
  { busyImage with
    mem := image.mem.write 0x2000 0x81#8, curY := 1#16, traffic := [⟨List.range' 0x1000 24, 0x2000, 0x81#8⟩] }

/-- `busyImage` with its cursor at the last group. -/
def busyLast : State := { busyImage with curY := 7#16 }

/-- `image` with its START as the only pending transaction. -/
def startImage : State := { image with pending := [.txn 0x1100000001#37] }

/-- PIXEL = 0xFF0000FF, the source's red pixel, with a policy. -/
def redPixel (channels mode : BitVec 3) (cthr : BitVec 10) : State :=
  { State.reset with pixel := 0xFF0000FF#32, channels := channels, mode := mode, cthr := cthr }

/-! ### Well-formedness: an ill-formed term for each check -/

theorem test_wf_refuses_start_without_bit0 : (Instr.wrCtrlStart 0xFFFFFFFE#32).wf = false := by decide
theorem test_wf_refuses_nop_with_bit0 : (Instr.wrCtrlNop 1#32).wf = false := by decide
theorem test_wf_refuses_valid_mode_as_invalid : (Instr.modeInvalid 3#3).wf = false := by decide

/-! ### Decoding: the word of every row, from 30_encoding R90 (WE, IDX, DATA), R94 and R96 -/

theorem test_decode_write_bit_by_bit :
    decodeTxn 0b1_0110_00000000_00000000_00000000_00001000#37 = .wrWidth 8#32 ∧
      decodeTxn 0b1_0001_00000000_00000000_00000000_00000001#37 = .wrCtrlStart 1#32 := by decide

theorem test_decode_read_bit_by_bit :
    decodeTxn 0b0_1110_00000000_00000000_00000000_00000000#37 = .rdClass ∧
      decodeTxn 0b0_1100_11111111_11111111_11111111_11111111#37 = .rdBytes := by decide

theorem test_decode_reads_0_to_7 :
    decodeTxn 0x0000000000#37 = .rdId ∧ decodeTxn 0x0100000000#37 = .rdCtrl ∧ decodeTxn 0x0200000000#37 = .rdStatus ∧
      decodeTxn 0x0300000000#37 = .rdCfg ∧ decodeTxn 0x0400000000#37 = .rdCthr ∧ decodeTxn 0x0500000000#37 = .rdAthr ∧
      decodeTxn 0x0600000000#37 = .rdWidth ∧ decodeTxn 0x0700000000#37 = .rdHeight := by decide

theorem test_decode_reads_8_to_15 :
    decodeTxn 0x0800000000#37 = .rdSrcBase ∧ decodeTxn 0x0900000000#37 = .rdSrcLen ∧
      decodeTxn 0x0A00000000#37 = .rdDstBase ∧ decodeTxn 0x0B00000000#37 = .rdDstLen ∧
      decodeTxn 0x0C00000000#37 = .rdBytes ∧ decodeTxn 0x0D00000000#37 = .rdPixel ∧
      decodeTxn 0x0E00000000#37 = .rdClass ∧ decodeTxn 0x0F00000000#37 = .rdRsv15 := by decide

theorem test_decode_writes_0_to_7 :
    decodeTxn 0x1000000000#37 = .wrId 0#32 ∧ decodeTxn 0x11FFFFFFFE#37 = .wrCtrlNop 0xFFFFFFFE#32 ∧
      decodeTxn 0x11FFFFFFFF#37 = .wrCtrlStart 0xFFFFFFFF#32 ∧ decodeTxn 0x12FFFFFFFF#37 = .wrStatus 0xFFFFFFFF#32 ∧
      decodeTxn 0x1300000303#37 = .wrCfg 0x303#32 ∧ decodeTxn 0x14000000E5#37 = .wrCthr 229#32 ∧
      decodeTxn 0x1500000033#37 = .wrAthr 51#32 ∧ decodeTxn 0x1600000008#37 = .wrWidth 8#32 ∧
      decodeTxn 0x1712345678#37 = .wrHeight 0x12345678#32 := by decide

theorem test_decode_writes_8_to_15 :
    decodeTxn 0x18DEADBEEF#37 = .wrSrcBase 0xDEADBEEF#32 ∧ decodeTxn 0x19000000C0#37 = .wrSrcLen 192#32 ∧
      decodeTxn 0x1A00002000#37 = .wrDstBase 0x2000#32 ∧ decodeTxn 0x1B00000010#37 = .wrDstLen 16#32 ∧
      decodeTxn 0x1C00000005#37 = .wrBytes 5#32 ∧ decodeTxn 0x1DFF0000FF#37 = .wrPixel 0xFF0000FF#32 ∧
      decodeTxn 0x1E0000000F#37 = .wrClass 15#32 ∧ decodeTxn 0x1FFFFFFFFF#37 = .wrRsv15 0xFFFFFFFF#32 := by decide

theorem test_decode_modes :
    decodeMode 0b000#3 = .modeColorAndAlpha ∧ decodeMode 0b001#3 = .modeColorOrAlpha ∧
      decodeMode 0b010#3 = .modeOnlyAlpha ∧ decodeMode 0b011#3 = .modeIgnoreAlpha ∧
      decodeMode 0b100#3 = .modeInvalid 4#3 ∧ decodeMode 0b101#3 = .modeInvalid 5#3 ∧
      decodeMode 0b110#3 = .modeInvalid 6#3 ∧ decodeMode 0b111#3 = .modeInvalid 7#3 := by decide

theorem test_decodeBytes_accepts_and_rejects_by_name :
    decodeBytes [0xC0#8, 0x00#8, 0x00#8, 0x00#8, 0x19#8] = .ok (.wrSrcLen 192#32) ∧
      decodeBytes [0x02#8] = .ok .modeOnlyAlpha ∧
      decodeBytes [0x00#8, 0x00#8, 0x00#8, 0x00#8, 0x20#8] = .error .bitsAboveTxn37 ∧
      decodeBytes [0x08#8] = .error .bitsAboveMode3 ∧ decodeBytes [0x00#8, 0x00#8] = .error .lengthOfNoFormat ∧
      decodeBytes [] = .error .lengthOfNoFormat := by
  refine ⟨?_, ?_, ?_, ?_, ?_, ?_⟩ <;> rfl

theorem test_decodeTableWord :
    decodeTableWord 37 0x1100000001 = some (.wrCtrlStart 1#32) ∧ decodeTableWord 40 0x0200000000 = some .rdStatus ∧
      decodeTableWord 3 5 = some (.modeInvalid 5#3) ∧ decodeTableWord 8 3 = some .modeIgnoreAlpha ∧
      decodeTableWord 40 0x2000000000 = none := by decide

/-! ### One step each: the classifier's vectors (CV2, CV5, CV7, CV9, CV13, CV23, CV25, CV29) -/

theorem test_pcls_strict_color :
    pcls 77 76 77 0 3 3 229 51 = ⟨true, true, true, false⟩ ∧ pcls 255 255 255 0 4 3 765 51 = ⟨false, true, false, false⟩ ∧
      pcls 255 255 255 0 4 3 1023 51 = ⟨false, true, false, false⟩ := by decide

theorem test_pcls_alpha_and_illegal_pairs :
    pcls 0 0 0 52 4 2 229 51 = ⟨true, true, false, true⟩ ∧ pcls 255 0 0 255 3 0 229 51 = ⟨false, false, true, true⟩ ∧
      pcls 255 255 255 255 4 7 229 51 = ⟨false, false, true, true⟩ := by decide

theorem test_rdClass_red_pixel_on_then_off :
    seen (exec .rdClass (redPixel 4 0 229)) = some (.hostRead 0xF#32) ∧
      seen (exec .rdClass (redPixel 4 3 688)) = some (.hostRead 0xA#32) := by decide

theorem test_rdClass_illegal_pair_and_reset :
    seen (exec .rdClass (redPixel 3 1 229)) = some (.hostRead 0xC#32) ∧
      seen (exec .rdClass State.reset) = some (.hostRead 0x2#32) := by decide

theorem test_mode_codes_on_red_pixel :
    seen (exec .modeColorAndAlpha (redPixel 4 1 229)) = some (.pclsPorts ⟨true, true, true, true⟩) ∧
      seen (exec .modeColorOrAlpha (redPixel 3 3 229)) = some (.pclsPorts ⟨false, false, true, true⟩) ∧
      seen (exec .modeOnlyAlpha (redPixel 4 1 688)) = some (.pclsPorts ⟨true, true, false, true⟩) ∧
      seen (exec .modeIgnoreAlpha (redPixel 4 1 688)) = some (.pclsPorts ⟨false, true, false, true⟩) ∧
      seen (exec (.modeInvalid 4#3) (redPixel 4 3 229)) = some (.pclsPorts ⟨false, false, true, true⟩) := by decide

/-! ### Register access (HR1 to HR14, HR16, BQ1 to BQ10, P6) -/

theorem test_writes_discard_reserved_bits :
    (after (exec (.wrCfg 0xFFFFFFFF#32) State.reset)).map cfgWord = some 0x00000707#32 ∧
      (after (exec (.wrCthr 0xFFFFFFFF#32) State.reset)).map (readReg .cthr) = some 0x000003FF#32 ∧
      (after (exec (.wrAthr 0xFFFFFFFF#32) State.reset)).map (readReg .athr) = some 0x000000FF#32 ∧
      (after (exec (.wrWidth 0xFFFFFFFF#32) State.reset)).map (readReg .width) = some 0x0000FFFF#32 ∧
      (after (exec (.wrHeight 0x12345678#32) State.reset)).map (readReg .height) = some 0x00005678#32 := by decide

theorem test_writes_store_whole_words :
    (after (exec (.wrSrcBase 0xDEADBEEF#32) State.reset)).map (readReg .srcBase) = some 0xDEADBEEF#32 ∧
      (after (exec (.wrPixel 0x01020304#32) State.reset)).map (readReg .pixel) = some 0x01020304#32 := by decide

theorem test_read_only_writes_are_ignored :
    (after (exec (.wrId 0#32) State.reset)).map (readReg .id) = some 0x58424D31#32 ∧
      (after (exec (.wrStatus 0xFFFFFFFF#32) State.reset)).map (readReg .status) = some 0#32 ∧
      (after (exec (.wrBytes 5#32) State.reset)).map (readReg .bytes) = some 0#32 ∧
      (after (exec (.wrClass 15#32) State.reset)).map (readReg .cls) = some 2#32 ∧
      (after (exec (.wrRsv15 0xFFFFFFFF#32) State.reset)).map (readReg .rsv15) = some 0#32 ∧
      (after (exec (.wrCtrlNop 0xFFFFFFFE#32) State.reset)).map statusWord = some 0#32 := by decide

theorem test_port_offset_10_reads_status :
    (after (step { base with done := true, pending := [.port false 0x0A#6 0#32] })).bind (·.observed.head?) =
      some (.hostRead 2#32) := by decide

theorem test_bytes_query :
    bytesWord 8 8 = 0x80000008#32 ∧ bytesWord 24 16 = 0x80000030#32 ∧ bytesWord 7 8 = 0#32 ∧ bytesWord 8 7 = 0#32 ∧
      bytesWord 0 8 = 0#32 ∧ bytesWord 65528 65528 = 0x9FFE0008#32 ∧ bytesWord 65535 8 = 0#32 ∧
      bytesWord 8 65528 = 0x8000FFF8#32 := by decide

theorem test_busy_drops_configuration_but_not_pixel :
    (after (exec (.wrWidth 16#32) busyImage)).map (readReg .width) = some 8#32 ∧
      (after (exec (.wrCfg 0x400#32) busyImage)).map cfgWord = some 0x303#32 ∧
      (after (exec (.wrCtrlStart 1#32) busyImage)).map statusWord = some 1#32 ∧
      (after (exec (.wrPixel 0x80000000#32) busyImage)).map (readReg .pixel) = some 0x80000000#32 := by decide

/-! ### START (SK1 to SK24): STATUS right after it -/

/-- STATUS after a START. -/
def startStatus (s : State) : Option Word := (after (exec (.wrCtrlStart 1#32) s)).map statusWord

theorem test_start_dimension_checks :
    startStatus { base with width := 0 } = some 0x106#32 ∧ startStatus { base with width := 0, height := 7 } = some 0x106#32 ∧
      startStatus { base with width := 7, height := 12 } = some 0x206#32 ∧
      startStatus { base with height := 12 } = some 0x306#32 := by decide

theorem test_start_policy_checks :
    startStatus { base with mode := 7, channels := 5 } = some 0x406#32 ∧
      startStatus { base with mode := 3, channels := 5 } = some 0x506#32 ∧
      startStatus { base with mode := 3, channels := 0 } = some 0x506#32 ∧
      startStatus { base with mode := 2, channels := 3 } = some 0x606#32 ∧
      startStatus { base with mode := 3, channels := 3 } = some 0x001#32 := by decide

theorem test_start_size_checks :
    startStatus { base with mode := 3, channels := 3, srcLen := 191 } = some 0x706#32 ∧
      startStatus { base with srcLen := 0, dstLen := 0 } = some 0x706#32 ∧
      startStatus { base with dstLen := 7 } = some 0x806#32 ∧
      startStatus { base with width := 65528, height := 65528, srcLen := 0xFFFFFFFF, dstLen := 0xFFFFFFFF } =
        some 0x706#32 := by decide

theorem test_start_range_checks :
    startStatus { image with srcBase := 0xFFFFFF40 } = some 0x001#32 ∧
      startStatus { image with srcBase := 0xFFFFFF41 } = some 0x906#32 ∧
      startStatus { base with dstBase := 0xFFFFFFF8 } = some 0x001#32 ∧
      startStatus { base with dstBase := 0xFFFFFFF9 } = some 0xA06#32 ∧
      startStatus { base with srcBase := 0xFFFFFFFF, dstBase := 0xFFFFFFFF } = some 0x906#32 := by decide

/-! ### The engine and reset (DP3, DP4, rule R291) -/

theorem test_group_packs_leftmost_pixel_to_bit_0 :
    (after (engineTurn busyImage)).map (fun t => (t.mem.read 0x2000, t.mem.read 0x2001, statusWord t)) =
      some (0x81#8, 0xBB#8, 1#32) := by decide

theorem test_last_group_completes :
    (after (engineTurn busyLast)).map (fun t => (t.mem.read 0x2007, statusWord t, t.curY, t.curXg)) =
      some (0#8, 2#32, 8#16, 0#16) := by decide

theorem test_reset_keeps_written_bytes :
    (after (step { busyRow1 with pending := [.reset] })).map
        (fun t => (t.mem.read 0x2000, t.mem.read 0x2001, statusWord t, cfgWord t, t.width)) =
      some (0x81#8, 0xBB#8, 0#32, 0x401#32, 0#16) := by decide

theorem test_memory_write_keeps_the_form :
    Memory.write [(1, 5#8), (3, 7#8)] 2 9#8 = [(1, 5#8), (2, 9#8), (3, 7#8)] ∧
      Memory.write [(1, 5#8), (3, 7#8)] 3 0#8 = [(1, 5#8)] := by decide

theorem test_unfair_schedule_leaves_the_engine_without_turn :
    (after (step { busyImage with fair := false })).map (fun t => (statusWord t, t.mem.read 0x2000)) =
        some (1#32, 0xAA#8) ∧
      (after (step busyImage)).map (fun t => (statusWord t, t.mem.read 0x2000)) = some (1#32, 0x81#8) := by decide

/-- A transaction to come, on the host port by word or by offset, or BUSY = 1, keeps a run from its end. -/
theorem test_run_not_ended :
    ¬ ({ image with pending := [.engine, .txn 0x0200000000#37] } : State).RunEnded ∧
      ¬ ({ image with pending := [.port true 0x34#6 0#32] } : State).RunEnded ∧ ¬ busyImage.RunEnded := by
  unfold State.RunEnded
  decide

/-! ### Witnesses: states and operands that meet the hypotheses of the obligations -/

theorem busyImage_canonical : busyImage.MemoryCanonical := ⟨by decide, by decide⟩
theorem busyImage_legal : busyImage.ConversionLegal := fun _ => by decide
theorem busyLast_legal : busyLast.ConversionLegal := fun _ => by decide

theorem busyImage_good : busyImage.Good := by
  refine ⟨rfl, busyImage_legal, fun _ _ _ => rfl, fun _ k _ => ?_, fun _ => ⟨[], by decide⟩⟩
  rw [show busyImage.groupsDone = 0 from rfl, if_neg (Nat.not_lt_zero k)]
  rfl

/-- `image` before its last group: seven bytes final, each written once. -/
def lastImage : State :=
  { busyLast with
    mem := [(0x1000, 0xFF#8), (0x1001, 0xFF#8), (0x1002, 0xFF#8), (0x1015, 0xFF#8), (0x1016, 0xFF#8), (0x1017, 0xFF#8),
      (0x2000, 0x81#8)],
    traffic := ((List.range 7).map (groupAccess busyLast)).reverse }

/-- The START checks at their boundaries: the regions end at 2^32, and just hold what is needed. -/
def edge : State := { image with srcBase := 0xFFFFFF40#32, srcLen := 192#32, dstBase := 0xFFFFFF38#32, dstLen := 8#32 }

theorem lastImage_good : lastImage.Good := by
  refine ⟨rfl, fun _ => by decide, fun _ a ha => ?_, fun _ k hk => ?_, fun _ => ⟨[], by decide⟩⟩
  · have region := inSrc_iff.mp ha
    have size : lastImage.srcBytes = 192 := by decide
    have first : lastImage.srcBase.toNat = 0x1000 := by decide
    have apart : a ≠ 0x2000 ∧ a ≠ 0x2001 := by omega
    simp [lastImage, busyLast, busyImage, image, Memory.read, apart]
  · have size : lastImage.dstBytes = 8 := by decide
    rw [size] at hk
    revert k
    decide

theorem whole_space_admitted {s : State} (h : s.admits = [⟨0, Config.addressSpaceSize⟩])
    (hs : s.srcBase.toNat + s.srcBytes ≤ Config.addressSpaceSize)
    (hd : s.dstBase.toNat + s.dstBytes ≤ Config.addressSpaceSize) (a : Nat)
    (ha : s.inSrc a = true ∨ s.inDst a = true) : s.admitted a = true := by
  rw [inSrc_iff, inDst_iff] at ha
  have below : a < Config.addressSpaceSize := by omega
  simp [State.admitted, h, below]

theorem startImage_startable : startImage.Startable :=
  ⟨rfl, by decide, by decide, whole_space_admitted rfl (by decide) (by decide), rfl⟩

theorem witness_DecodeOfEncodeIsIdentity :
    (Instr.wrCtrlStart 1#32).wf = true ∧ (Instr.wrCtrlNop 0#32).wf = true ∧ (Instr.modeInvalid 4#3).wf = true ∧
      (Instr.modeInvalid 7#3).wf = true ∧ Instr.rdId.wf = true ∧ (Instr.wrPixel 0xFFFFFFFF#32).wf = true := by decide

theorem witness_EveryWordMatchesOneTableRow :
    ∃ q ∈ txnRows, (0x1FFFFFFFFF#37 : BitVec 37) &&& q.mask = q.pattern := by
  refine ⟨⟨0x1F00000000#37, 0x1F00000000#37, .wrRsv15⟩, ?_, by decide⟩
  simp [txnRows, txnRows3]

theorem witness_StepRunsDecodedInstruction :
    startImage.pending = .txn 0x1100000001#37 :: [] ∧
      ({ image with pending := [.port true 0x3F#6 5#32] } : State).pending = .port true 0x3F#6 5#32 :: [] ∧
      ({ image with pending := [.modeCode 4#3] } : State).pending = .modeCode 4#3 :: [] ∧
      ({ image with pending := [.engine, .reset] } : State).pending = .engine :: [.reset] ∧
      ({ image with pending := [.reset] } : State).pending = .reset :: [] ∧
      ({ image with pending := [.load 0#32] } : State).pending = .load 0#32 :: [] ∧
      ({ image with pending := [.store 0xFFFFFFFF#32 1#8] } : State).pending = .store 0xFFFFFFFF#32 1#8 :: [] ∧
      image.pending = [] :=
  ⟨rfl, rfl, rfl, rfl, rfl, rfl, rfl, rfl⟩

theorem witness_PlacedWordRunsNext :
    decodeTableWord 37 0x1600000008 = some (.wrWidth 8#32) ∧ decodeTableWord 3 7 = some (.modeInvalid 7#3) := by decide

theorem witness_PortOffsetSelectsRegister :
    ({ image with pending := [.port true 0x3F#6 5#32] } : State).pending = .port true 0x3F#6 5#32 :: [] ∧
      ({ image with pending := [.port false 0#6 0#32] } : State).pending = .port false 0#6 0#32 :: [] := ⟨rfl, rfl⟩

theorem witness_BytesReadReturnsExactCount :
    let valid := fun s : State => 0 < s.width.toNat ∧ 0 < s.height.toNat ∧ s.width.toNat % 8 = 0 ∧ s.height.toNat % 8 = 0
    valid base ∧ valid { base with width := 65528, height := 65528 } ∧ ¬ valid { base with width := 0 } ∧
      ¬ valid { base with width := 7 } ∧ ¬ valid { base with height := 65535 } := by decide

theorem witness_Encodes :
    0x13FFFFFFFF#37 &&& 0x1F00000000#37 = 0x1300000000#37 ∧ 0x1100000000#37 &&& 0x1F00000001#37 = 0x1100000000#37 := by
  decide

theorem witness_PixelWriteIsNeverFrozen : ∃ u, engineTurn busyImage = .next u := ⟨_, rfl⟩

theorem witness_ConfigurationWritesDroppedWhileBusy :
    busyImage.busy = true ∧ Instr.wrCfg 0x400#32 ∈ [Instr.wrCfg 0x400#32, .wrCthr 0x400#32, .wrAthr 0x400#32,
      .wrWidth 0x400#32, .wrHeight 0x400#32, .wrSrcBase 0x400#32, .wrSrcLen 0x400#32, .wrDstBase 0x400#32,
      .wrDstLen 0x400#32] := by decide

theorem witness_StartWhileBusyIsDropped : busyImage.busy = true := rfl

/-- One state for each code, at the boundary of its check; STATUS's code is tested above. -/
theorem witness_StartReportsFirstFailingCheck :
    firstViolation { base with width := 0 } = some .dimZero ∧
      firstViolation { base with width := 65535 } = some .widthAlign ∧
      firstViolation { base with height := 65535 } = some .heightAlign ∧
      firstViolation { base with mode := 4 } = some .mode ∧
      firstViolation { base with mode := 3, channels := 5 } = some .channels ∧
      firstViolation { base with mode := 2, channels := 3 } = some .modeChannels ∧
      firstViolation { base with srcLen := 255 } = some .srcSize ∧
      firstViolation { base with dstLen := 7 } = some .dstSize ∧
      firstViolation { base with srcBase := 0xFFFFFF01 } = some .srcRange ∧
      firstViolation { base with dstBase := 0xFFFFFFF9 } = some .dstRange ∧ base.busy = false := by decide

theorem witness_AcceptedStartEnablesEngine :
    edge.busy = false ∧ edge.width.toNat ≠ 0 ∧ edge.height.toNat ≠ 0 ∧ edge.width.toNat % 8 = 0 ∧
      edge.height.toNat % 8 = 0 ∧ edge.mode.toNat ≤ 3 ∧ (edge.channels.toNat = 3 ∨ edge.channels.toNat = 4) ∧
      (edge.mode.toNat = 3 ∨ edge.channels.toNat = 4) ∧
      edge.width.toNat * edge.height.toNat * edge.channels.toNat ≤ edge.srcLen.toNat ∧
      edge.width.toNat / 8 * edge.height.toNat ≤ edge.dstLen.toNat ∧
      edge.srcBase.toNat + edge.width.toNat * edge.height.toNat * edge.channels.toNat ≤ 2 ^ 32 ∧
      edge.dstBase.toNat + edge.width.toNat / 8 * edge.height.toNat ≤ 2 ^ 32 ∧ edge.regionsOverlap = false := by decide

theorem witness_AcceptedStartEnablesEngine_admitted :
    ∀ a, edge.inSrc a = true ∨ edge.inDst a = true → edge.admitted a = true :=
  whole_space_admitted rfl (by decide) (by decide)

/-- STATUS changes by a START, by a completion, and by reset. -/
theorem witness_OnlyStartCompletionAndResetWriteStatus :
    (∃ t, step startImage = .next t ∧ statusWord t ≠ statusWord startImage) ∧
      (∃ t, step busyLast = .next t ∧ statusWord t ≠ statusWord busyLast) ∧
      ∃ t, step { busyImage with pending := [.reset] } = .next t ∧ statusWord t ≠ statusWord busyImage :=
  ⟨⟨_, rfl, by decide⟩, ⟨_, rfl, by decide⟩, ⟨_, rfl, by decide⟩⟩

/-- A write that is dropped, and the completing step. -/
theorem witness_BusyFreezesConfiguration :
    (∃ t, step { busyImage with pending := [.txn 0x1600000010#37] } = .next t ∧ busyImage.busy = true) ∧
      (∀ rest, ({ busyImage with pending := [.txn 0x1600000010#37] } : State).pending ≠ .reset :: rest) ∧
      (∃ t, step busyLast = .next t ∧ busyLast.busy = true ∧ t.busy = false) ∧
      ∀ rest, busyLast.pending ≠ .reset :: rest :=
  ⟨⟨_, rfl, rfl⟩, fun _ => by simp, ⟨_, rfl, rfl, by decide⟩, fun _ => by simp [busyLast, busyImage, image, base, State.reset]⟩

theorem witness_OnlyEngineAndStoresChangeMemory :
    busyImage.MemoryCanonical ∧ busyImage.ConversionLegal ∧ busyImage.CursorAligned ∧
      (∃ t, step busyImage = .next t ∧ t.mem.read 0x2000 ≠ busyImage.mem.read 0x2000) ∧
      (∃ t, step { image with pending := [.store 0xFFFFFFFF#32 1#8] } = .next t ∧
        t.mem.read 0xFFFFFFFF ≠ image.mem.read 0xFFFFFFFF) ∧
      ∀ rest, ({ image with pending := [.reset] } : State).pending ≠ [] ∧
        ({ image with pending := [.reset] } : State).pending ≠ .engine :: rest :=
  ⟨busyImage_canonical, busyImage_legal, rfl, ⟨_, rfl, by decide⟩, ⟨_, rfl, by decide⟩, fun _ => by simp⟩

theorem witness_ThresholdLevelsLoseNothing :
    ((0 : ℝ) ≤ 0 ∧ (0 : ℝ) ≤ 1) ∧ ((0 : ℝ) ≤ 1 ∧ (1 : ℝ) ≤ 1) ∧ (0 : ℝ) ≤ 3 / 10 ∧ (3 / 10 : ℝ) ≤ 1 := by norm_num

theorem witness_TopLevelsNeverFire :
    765 ≤ ({ base with cthr := 765 } : State).cthr.toNat ∧ 765 ≤ ({ base with cthr := 1023 } : State).cthr.toNat ∧
      ({ base with athr := 255 } : State).athr.toNat = 255 := by decide

/-- A group that the engine may take: the first of `image`, and its last. -/
theorem witness_GroupStepPacksEightPixels :
    (busyImage.MemoryCanonical ∧ busyImage.ConversionLegal ∧ busyImage.CursorAligned ∧ busyImage.busy = true ∧
      busyImage.regionsOverlap = false ∧ ∀ a ∈ busyImage.stepAccesses, busyImage.admitted a = true) ∧
    (busyLast.MemoryCanonical ∧ busyLast.ConversionLegal ∧ busyLast.CursorAligned ∧ busyLast.busy = true ∧
      busyLast.regionsOverlap = false ∧ ∀ a ∈ busyLast.stepAccesses, busyLast.admitted a = true) :=
  ⟨⟨busyImage_canonical, busyImage_legal, rfl, rfl, by decide, by decide⟩,
    busyImage_canonical, busyLast_legal, rfl, rfl, by decide, by decide⟩

/-- The next group is in the row of a wider image, in the next row, or it was the last. -/
theorem witness_GroupStepAdvancesRowMajor :
    let wide : State := { busyImage with width := 16#16, dstBase := 0x3000#32, srcLen := 384#32, dstLen := 16#32 }
    (wide.ConversionLegal ∧ wide.CursorAligned ∧ wide.busy = true ∧ wide.regionsOverlap = false ∧
      (∀ a ∈ wide.stepAccesses, wide.admitted a = true) ∧ wide.curXg.toNat + 8 < wide.width.toNat) ∧
    ¬ busyImage.curXg.toNat + 8 < busyImage.width.toNat ∧
      ¬ (busyImage.curY.toNat + 1 = busyImage.height.toNat ∧ busyImage.curXg.toNat + 8 = busyImage.width.toNat) ∧
      statusWord busyLast = 0x00000001#32 ∧
      (busyLast.curY.toNat + 1 = busyLast.height.toNat ∧ busyLast.curXg.toNat + 8 = busyLast.width.toNat) :=
  ⟨⟨fun _ => by decide, rfl, rfl, by decide, by decide, by decide⟩, by decide, by decide, by decide, by decide⟩

theorem witness_GroupStepStaysInItsRegions :
    busyImage.MemoryCanonical ∧ busyImage.ConversionLegal ∧ busyImage.CursorAligned ∧ busyImage.busy = true ∧
      busyImage.regionsOverlap = false ∧ ∀ a ∈ busyImage.stepAccesses, busyImage.admitted a = true :=
  witness_GroupStepPacksEightPixels.1

/-- A stuck engine with nothing pending, and one that the Host polls. -/
theorem witness_UnadmittedAccessLeavesEngineStuck :
    let s : State := { busyImage with admits := [⟨0x1000, 0x1000⟩] }
    let polled : State := { s with pending := [.txn 0x0200000000#37, .engine] }
    (s.Stuck ∧ s.pending = []) ∧ polled.Stuck ∧ (∃ t, step polled = .next t) ∧
      (∀ rest, polled.pending ≠ .reset :: rest) ∧ Event.reset ∉ polled.pending ∧ ∃ t, core.run 3 polled = .next t :=
  ⟨⟨⟨rfl, by decide, by decide, by decide⟩, rfl⟩, ⟨rfl, by decide, by decide, by decide⟩, ⟨_, rfl⟩, fun _ => by simp,
    by decide, ⟨_, rfl⟩⟩

theorem witness_IdleStateSurvives : image.busy = false ∧ image.pending = [] := ⟨rfl, rfl⟩

theorem witness_OverlappingConversionIsRefused :
    let s : State := { busyImage with dstBase := 0x10BF#32 }
    s.busy = true ∧ s.regionsOverlap = true ∧ s.inDst (0x10BF#32).toNat = true ∧ s.pending = [] ∧ s.fair = true ∧
      ({ s with pending := [.engine] } : State).pending = .engine :: [] ∧
      ({ s with pending := [.load 0x10BF#32] } : State).pending = .load 0x10BF#32 :: [] :=
  ⟨rfl, by decide, by decide, rfl, rfl, rfl, rfl⟩

/-- A store into SRC, one into DST, one just past each, and one into DST with BUSY = 0. -/
theorem witness_StoresToBusyRegionsAreRefused :
    busyImage.MemoryCanonical ∧
      ({ busyImage with pending := [.store 0x10BF#32 1#8] } : State).pending = .store 0x10BF#32 1#8 :: [] ∧
      busyImage.busy = true ∧ busyImage.inSrc 0x10BF = true ∧ busyImage.inDst 0x2007 = true ∧
      ¬ (busyImage.busy = true ∧ (busyImage.inSrc 0x10C0 = true ∨ busyImage.inDst 0x10C0 = true)) ∧
      ¬ (busyImage.busy = true ∧ (busyImage.inSrc 0x2008 = true ∨ busyImage.inDst 0x2008 = true)) ∧
      ¬ (image.busy = true ∧ (image.inSrc 0x2000 = true ∨ image.inDst 0x2000 = true)) :=
  ⟨busyImage_canonical, rfl, rfl, by decide, by decide, by decide, by decide, by decide⟩

/-- A load that races, one just past DST, and one with BUSY = 0. -/
theorem witness_RacingLoadReturnsOldOrFinal :
    ({ busyImage with pending := [.load 0x2007#32] } : State).pending = .load 0x2007#32 :: [] ∧ busyImage.busy = true ∧
      busyImage.inDst 0x2007 = true ∧ busyImage.regionsOverlap = false ∧ busyImage.inDst 0x2008 = false ∧
      image.busy = false := ⟨rfl, rfl, by decide, by decide, by decide, rfl⟩

theorem witness_ResetSetsEveryRegister :
    ({ busyRow1 with pending := [.reset, .engine] } : State).pending = .reset :: [.engine] := rfl

theorem witness_ResetLeavesDestinationPrefix :
    lastImage.Good ∧ lastImage.busy = true ∧
      ({ lastImage with pending := [.reset] } : State).Good ∧
      ({ lastImage with pending := [.reset] } : State).pending = .reset :: [] :=
  ⟨lastImage_good, rfl, Good_of_sameConversion (s := lastImage) (by constructor <;> rfl) rfl rfl rfl rfl rfl lastImage_good,
    rfl⟩

theorem witness_StepKeepsMemoryCanonical :
    lastImage.MemoryCanonical ∧ ∃ t, step lastImage = .next t := ⟨⟨by decide, by decide⟩, _, rfl⟩

theorem witness_StepKeepsStatusLegal :
    busyImage.StatusLegal ∧ ({ base with done := true, err := true, errCode := 10#4 } : State).StatusLegal ∧
      ∃ t, step busyImage = .next t :=
  ⟨.inr (.inl (by decide)), .inr (.inr (.inr ⟨10, by decide, by decide, by decide⟩)), _, rfl⟩

theorem witness_StepKeepsConversionGood :
    lastImage.MemoryCanonical ∧ lastImage.Good ∧ busyImage.Good ∧ ∃ t, step busyImage = .next t :=
  ⟨⟨by decide, by decide⟩, lastImage_good, busyImage_good, _, rfl⟩

theorem witness_GoodStateNeverFaults :
    busyImage.CursorAligned ∧ busyImage.ConversionLegal ∧ edge.CursorAligned ∧ edge.ConversionLegal :=
  ⟨rfl, busyImage_legal, rfl, fun h => absurd h (by decide)⟩

theorem witness_CompletionShowsFinalBytes :
    lastImage.MemoryCanonical ∧ lastImage.Good ∧ lastImage.busy = true ∧
      ∃ t, step lastImage = .next t ∧ t.busy = false ∧ t.done = true :=
  ⟨⟨by decide, by decide⟩, lastImage_good, rfl, _, rfl, by decide, by decide⟩

theorem witness_StartedConversionCompletes :
    startImage.MemoryCanonical ∧ startImage.Startable ∧ startImage.StartPending :=
  ⟨⟨by decide, by decide⟩, startImage_startable, rfl⟩

/-- `image` before its last group, with a poll, a racing load, a dropped START and a store just past DST to come. -/
theorem witness_FairScheduleCompletes :
    let s : State :=
      { lastImage with
        pending := [.txn 0x0200000000#37, .load 0x2007#32, .txn 0x1100000001#37, .store 0x2008#32 1#8, .engine] }
    s.MemoryCanonical ∧ s.Good ∧ statusWord s = 0x00000001#32 ∧ s.fair = true ∧ s.regionsOverlap = false ∧
      (∀ a, s.inSrc a = true ∨ s.inDst a = true → s.admitted a = true) ∧ s.Undisturbed := by
  refine ⟨⟨by decide, by decide⟩,
    Good_of_sameConversion (s := lastImage) (by constructor <;> rfl) rfl rfl rfl rfl rfl lastImage_good, by decide, rfl,
    by decide, whole_space_admitted rfl (by decide) (by decide), fun e he => ?_⟩
  simp only [List.mem_cons, List.not_mem_nil, or_false] at he
  rcases he with rfl | rfl | rfl | rfl | rfl
  all_goals
    refine ⟨by decide, fun addr v hv => ?_⟩
    cases hv <;> exact ⟨by decide, by decide⟩

theorem witness_UnfairScheduleNeverCompletes :
    let s : State := { busyImage with fair := false, pending := List.replicate 3 (.txn 0x0200000000#37) }
    s.busy = true ∧ s.fair = false ∧ s.pending = List.replicate 3 (.txn 0x0200000000#37) := ⟨rfl, rfl, rfl⟩

/-- A run that has ended with a load to come, and one with a reset to come. -/
theorem witness_EndedRunKeepsObservation :
    let s : State := { image with done := true, pending := [.load 0x2000#32, .engine] }
    let u : State := { image with done := true, pending := [.reset] }
    (s.RunEnded ∧ (∃ t, step s = .next t) ∧ (∀ rest, s.pending ≠ .reset :: rest) ∧
      ∀ addr v rest, s.pending ≠ .store addr v :: rest) ∧ u.RunEnded ∧ ∃ t, step u = .next t :=
  ⟨⟨⟨by decide, rfl⟩, ⟨_, rfl⟩, fun _ => by simp, fun _ _ _ => by simp⟩, ⟨by decide, rfl⟩, ⟨_, rfl⟩⟩

theorem witness_ConversionAccessesEachByteOnce :
    startImage.MemoryCanonical ∧ startImage.Startable ∧ startImage.StartPending := witness_StartedConversionCompletes

/-- The same source at another place, and another destination. -/
theorem witness_EqualInputsGiveEqualBitmaps :
    let s' : State :=
      { startImage with
        srcBase := 0x4000#32, dstBase := 0x9000#32,
        mem := [(0x4000, 0xFF#8), (0x4001, 0xFF#8), (0x4002, 0xFF#8), (0x4015, 0xFF#8), (0x4016, 0xFF#8),
          (0x4017, 0xFF#8)] }
    startImage.MemoryCanonical ∧ s'.MemoryCanonical ∧ startImage.Startable ∧ s'.Startable ∧ startImage.StartPending ∧
      s'.StartPending ∧ startImage.width = s'.width ∧ startImage.height = s'.height ∧
      startImage.channels = s'.channels ∧ startImage.mode = s'.mode ∧ startImage.cthr = s'.cthr ∧
      startImage.athr = s'.athr ∧
      ∀ i, i < startImage.width.toNat * startImage.height.toNat * startImage.channels.toNat →
        startImage.mem.read (startImage.srcBase.toNat + i) = s'.mem.read (s'.srcBase.toNat + i) := by
  refine ⟨⟨by decide, by decide⟩, ⟨by decide, by decide⟩, startImage_startable,
    ⟨rfl, by decide, by decide, whole_space_admitted rfl (by decide) (by decide), rfl⟩, rfl, rfl, rfl, rfl, rfl, rfl, rfl, rfl,
    fun i hi => ?_⟩
  have size : startImage.width.toNat * startImage.height.toNat * startImage.channels.toNat = 192 := by decide
  rw [size] at hi
  simp only [startImage, image, base, Memory.read, BitVec.toNat_ofNat]
  split_ifs <;> first | rfl | omega

theorem witness_TransactionsDoNotDisturbConversion :
    busyImage.busy = true ∧ (∃ t, exec (.wrPixel 5#32) busyImage = .next t) ∧ ∃ u, engineTurn busyImage = .next u :=
  ⟨rfl, ⟨_, rfl⟩, ⟨_, rfl⟩⟩

end Sys2Proof.Tests
end

section
/-! PROOFS. Taking an event (family 00_scope): which instruction a step performs, and that it is well formed. -/

namespace Sys2Proof

/-- The decoder makes only well-formed instructions: it looks at DATA[0] before it names the row of a CTRL write, the one
register with two rows (30_encoding R100). -/
theorem decodeTxn_wf (w : BitVec 37) : (decodeTxn w).wf = true := by
  unfold decodeTxn
  cases txnWe w with
  | false => cases regOfIndex (txnIdx w) <;> rfl
  | true =>
    cases regOfIndex (txnIdx w) with
    | ctrl =>
      cases start : (txnData w).getLsbD 0 with
      | true => exact start
      | false =>
        show (!(txnData w).getLsbD 0) = true
        rw [start]
        rfl
    | _ => rfl

/-- The eight mode codes: a code below 4 has no operand, and the others have bit 2 set (30_encoding R96). -/
theorem decodeMode_wf (m : BitVec 3) : (decodeMode m).wf = true := by
  revert m; decide

end Sys2Proof

namespace Sys2Proof.Machine

/-- With events pending, a step takes the first one off the list and handles it. -/
theorem step_of_pending_cons {s : State} {e : Event} {rest : List Event} (h : s.pending = e :: rest) :
    step s = handle e { s with pending := rest } := by
  simp only [step, h]
  rfl

/-- With no event pending, the schedule decides. -/
theorem step_of_pending_nil {s : State} (h : s.pending = []) : step s = unlistedTurn s := by
  simp only [step, h]

/-- Settles O5: each clause is the arm of `handle` for its kind of event. -/
theorem stepRunsDecodedInstruction : Obligations.StepRunsDecodedInstruction := by
  intro s rest
  refine ⟨fun w h => ⟨decodeTxn_wf w, ?txn⟩, fun we off data h => ⟨decodeTxn_wf _, ?port⟩,
    fun m h => ⟨decodeMode_wf m, ?modeCode⟩, fun h => ?engine, fun h => ?reset, fun addr h => ?load,
    fun addr v h => ?store, fun h => ?none⟩
  case none => exact step_of_pending_nil h
  all_goals exact step_of_pending_cons h

end Sys2Proof.Machine
end

section
/-! PROOFS. Noninterference (family 00_scope): while BUSY = 1 an instruction reaches only PIXEL and the record of what the
outside saw, and the engine's turn neither reads nor writes those two (42_host_access R220, 00_scope R6). -/

namespace Sys2Proof.Machine

/-- The state with other values of the two fields that an instruction can reach while BUSY = 1. -/
def State.withHostSide (s : State) (pixel : Word) (observed : List Output) : State :=
  { s with pixel := pixel, observed := observed }

variable {s t u : State}

@[simp] theorem withHostSide_mem (s : State) (p : Word) (os : List Output) : (s.withHostSide p os).mem = s.mem := rfl
@[simp] theorem withHostSide_curY (s : State) (p : Word) (os : List Output) : (s.withHostSide p os).curY = s.curY := rfl
@[simp] theorem withHostSide_curXg (s : State) (p : Word) (os : List Output) : (s.withHostSide p os).curXg = s.curXg := rfl
@[simp] theorem withHostSide_traffic (s : State) (p : Word) (os : List Output) :
    (s.withHostSide p os).traffic = s.traffic := rfl
@[simp] theorem statusWord_withHostSide (s : State) (p : Word) (os : List Output) :
    statusWord (s.withHostSide p os) = statusWord s := rfl

/-- While BUSY = 1 an instruction changes at most PIXEL and the record of what the outside saw. -/
theorem exec_busy {i : Instr} (hb : s.busy = true) (h : exec i s = .next t) : ∃ p os, t = s.withHostSide p os := by
  rcases exec_next h with rfl | ⟨o, rfl⟩ | ⟨d, rfl⟩ | ⟨idle, -⟩
  · exact ⟨t.pixel, t.observed, rfl⟩
  · exact ⟨s.pixel, o :: s.observed, rfl⟩
  · exact ⟨d, s.observed, rfl⟩
  · simp [hb] at idle

theorem packGroup_withHostSide (s : State) (p : Word) (os : List Output) :
    (s.withHostSide p os).packGroup = s.packGroup.withHostSide p os := rfl

/-- The cursor's next place comes from the cursor and WIDTH. -/
theorem advance_withHostSide (s : State) (p : Word) (os : List Output) :
    (s.withHostSide p os).advance = s.advance.withHostSide p os := by
  by_cases h : s.xg + 8 < s.w
  · rw [advance_same_row h, advance_same_row (s := s.withHostSide p os) h]; rfl
  · rw [advance_next_row h, advance_next_row (s := s.withHostSide p os) h]; rfl

/-- The group step does not read the host's side and leaves it as it is. -/
theorem groupStep_withHostSide (s : State) (p : Word) (os : List Output) :
    (s.withHostSide p os).groupStep = s.groupStep.withHostSide p os := by
  have last : (s.withHostSide p os).atLastGroup = s.atLastGroup := rfl
  simp only [State.groupStep, last, packGroup_withHostSide, advance_withHostSide]
  split <;> rfl

/-- The engine's turn commutes with any change of the host's side. -/
theorem engineTurn_withHostSide (h : engineTurn s = .next u) (p : Word) (os : List Output) :
    engineTurn (s.withHostSide p os) = .next (u.withHostSide p os) := by
  rcases engineTurn_next h with ⟨idle, rfl⟩ | ⟨hb, apart, below, ⟨admitted, rfl⟩ | ⟨refused, rfl⟩⟩
  · exact engineTurn_idle idle
  · rw [← groupStep_withHostSide]
    exact engineTurn_enabled hb apart below admitted
  · exact engineTurn_stuck hb apart below refused

/-- Settles O51: the instruction reached the host's side alone, so the engine's turn after it is the turn without it, on
that side's new values. -/
theorem transactionsDoNotDisturbConversion : Obligations.TransactionsDoNotDisturbConversion := by
  intro i s t u hb hi hu
  obtain ⟨p, os, rfl⟩ := exec_busy hb hi
  exact ⟨u.withHostSide p os, engineTurn_withHostSide hu p os, by simp⟩

end Sys2Proof.Machine
end

section
/-! PROOFS. What a step can do (family 10_state), said once: each event that answers a next state has one of six effects
on the state after the event is taken off the list. -/

namespace Sys2Proof.Machine

/-- The state once a step has taken the next event, if there is one, off the list (log 1). -/
def State.eventTaken (s : State) : State := s.withPending s.pending.tail

theorem eventTaken_of_nil {s : State} (h : s.pending = []) : s.eventTaken = s := by
  obtain ⟨⟩ := s
  obtain rfl := h
  rfl

theorem eventTaken_of_cons {s : State} {e : Event} {rest : List Event} (h : s.pending = e :: rest) :
    s.eventTaken = s.withPending rest := by
  rw [State.eventTaken, h, List.tail_cons]

/-- The Engine has the next turn: it is the next event, or nothing is pending under a weakly fair schedule. -/
def State.EngineIsNext (s : State) : Prop :=
  s.pending = [] ∧ s.fair = true ∨ ∃ rest, s.pending = .engine :: rest

/-- The next event is a transaction, as a word or as a host-port access, that decodes to START. -/
def State.StartIsNext (s : State) : Prop :=
  ∃ data rest w,
    (s.pending = .txn w :: rest ∨ ∃ we off d, s.pending = .port we off d :: rest ∧ w = txnOfPort we off d) ∧
      decodeTxn w = .wrCtrlStart data

/-- From `s` to `t` the conversion, STATUS, memory, the cursor and the record of accesses stay as they are. -/
structure Quiet (s t : State) : Prop extends SameConversion s t where
  mem : t.mem = s.mem
  busy : t.busy = s.busy
  status : statusWord t = statusWord s
  curXg : t.curXg = s.curXg
  curY : t.curY = s.curY
  traffic : t.traffic = s.traffic

/-- The effects a step from `s` to `t` can have. -/
inductive StepEffect (s t : State) : Prop where
  /-- reads, mode codes, loads, writes of PIXEL, dropped and read-only writes, and turns that do nothing -/
  | quiet (same : Quiet s t)
  /-- a configuration register is written, with BUSY = 0 -/
  | config (idle : s.busy = false) (write : ConfigWrite s.eventTaken t)
  /-- a START is checked, with BUSY = 0 -/
  | start (idle : s.busy = false) (next : s.StartIsNext) (eq : t = s.eventTaken.startChecked)
  /-- the Engine packs a group -/
  | group (busy : s.busy = true) (apart : s.regionsOverlap = false) (next : s.EngineIsNext)
      (eq : t = s.eventTaken.groupStep)
  /-- reset -/
  | reset (next : ∃ rest, s.pending = .reset :: rest) (eq : t = s.eventTaken.resetBlock)
  /-- a master stores a byte outside the regions of a conversion -/
  | store (addr : Word) (v : Byte)
      (outside : s.busy = false ∨ s.inSrc addr.toNat = false ∧ s.inDst addr.toNat = false)
      (eq : t = s.eventTaken.storeByte addr.toNat v)

variable {s t : State}

/-! ### The effect of each kind of event -/

/-- Taking the event off the list touches no part of the hardware (log 1). -/
theorem quiet_eventTaken (s : State) : Quiet s s.eventTaken :=
  { (by constructor <;> rfl : SameConversion s s.eventTaken) with
    mem := rfl, busy := rfl, status := rfl, curXg := rfl, curY := rfl, traffic := rfl }

theorem Quiet.observe (h : Quiet s t) (o : Output) : Quiet s (t.observe o) := { h with }

theorem Quiet.setPixel (h : Quiet s t) (d : Word) : Quiet s (t.setPixel d) := { h with }

theorem Quiet.countRace (h : Quiet s t) : Quiet s t.countRace := { h with }

theorem stepEffect_of_exec {i : Instr} (h : exec i s.eventTaken = .next t)
    (start : ∀ d, i = .wrCtrlStart d → s.StartIsNext) : StepEffect s t := by
  rcases exec_next h with rfl | ⟨o, rfl⟩ | ⟨d, rfl⟩ | ⟨idle, write | ⟨⟨d, hi⟩, rfl⟩⟩
  · exact .quiet (quiet_eventTaken s)
  · exact .quiet ((quiet_eventTaken s).observe o)
  · exact .quiet ((quiet_eventTaken s).setPixel d)
  · exact .config idle write
  · exact .start idle (start d hi) rfl

theorem stepEffect_of_engineTurn (h : engineTurn s.eventTaken = .next t) (next : s.EngineIsNext) : StepEffect s t := by
  rcases engineTurn_next h with ⟨-, rfl⟩ | ⟨busy, apart, -, ⟨-, rfl⟩ | ⟨-, rfl⟩⟩
  · exact .quiet (quiet_eventTaken s)
  · exact .group busy apart next rfl
  · exact .quiet (quiet_eventTaken s)

theorem stepEffect_of_platformLoad {addr : Word} (h : platformLoad addr s.eventTaken = .next t) : StepEffect s t := by
  rcases platformLoad_next h with ⟨-, -, -, rfl⟩ | ⟨-, rfl⟩
  · exact .quiet ((quiet_eventTaken s).countRace.observe _)
  · exact .quiet ((quiet_eventTaken s).observe _)

/-- No mode code is a START: the two formats share no row (30_encoding R96). -/
theorem decodeMode_ne_start (m : BitVec 3) (d : Word) : decodeMode m ≠ .wrCtrlStart d := by
  unfold decodeMode
  cases modeOfCode m <;> exact Instr.noConfusion

/-- Everything a step can do. -/
theorem step_next (h : step s = .next t) : StepEffect s t := by
  rcases step_cases s with ⟨hp, hs⟩ | ⟨e, rest, hp, hs⟩ <;> rw [hs] at h
  · rcases unlistedTurn_next h with ⟨fair, turn⟩ | ⟨-, rfl⟩
    · exact stepEffect_of_engineTurn (by rwa [eventTaken_of_nil hp]) (.inl ⟨hp, fair⟩)
    · simpa [eventTaken_of_nil hp] using StepEffect.quiet (quiet_eventTaken t)
  · rw [← eventTaken_of_cons hp] at h
    cases e with
    | txn w => exact stepEffect_of_exec h fun d hd => ⟨d, rest, w, .inl hp, hd⟩
    | port we off data => exact stepEffect_of_exec h fun d hd => ⟨d, rest, _, .inr ⟨we, off, data, hp, rfl⟩, hd⟩
    | modeCode m => exact stepEffect_of_exec h fun d hd => absurd hd (decodeMode_ne_start m d)
    | engine => exact stepEffect_of_engineTurn h (.inr ⟨rest, hp⟩)
    | reset => exact .reset ⟨rest, hp⟩ (Host.Outcome.next.inj h).symm
    | load addr => exact stepEffect_of_platformLoad h
    | store addr v =>
      obtain ⟨outside, rfl⟩ := platformStore_next h
      exact .store addr v outside rfl

/-! ### What the effects leave -/

/-- A configuration write reaches neither STATUS nor the cursor. -/
theorem ConfigWrite.frame (h : ConfigWrite s t) :
    t.busy = s.busy ∧ t.curXg = s.curXg ∧ statusWord t = statusWord s := by
  obtain ⟨d, h⟩ := h
  rcases h with rfl | rfl | rfl | rfl | rfl | rfl | rfl | rfl | rfl <;> exact ⟨rfl, rfl, rfl⟩

theorem sameConversion_storeByte (s : State) (a : Nat) (v : Byte) : SameConversion s (s.storeByte a v) := by
  constructor <;> rfl

/-- Reset leaves STATUS 0 (10_state R42). -/
theorem statusWord_resetBlock (s : State) : statusWord s.resetBlock = 0#32 :=
  BitVec.eq_of_toNat_eq (by simp [toNat_statusWord])

/-- A group step that is not the last leaves STATUS (41_packer R189). -/
theorem statusWord_groupStep (h : s.atLastGroup = false) : statusWord s.groupStep = statusWord s := by
  simp [statusWord, groupStep_busy, groupStep_done, h]

end Sys2Proof.Machine
end

section
/-! PROOFS. The registers and STATUS over a step (family 10_state): who writes STATUS, and that a conversion's
configuration is frozen (10_state R24, R38, R42). -/

namespace Sys2Proof.Machine

/-- Settles O42: nothing is listed in memory, STATUS is 0, and with BUSY = 0 an aligned cursor is all that a good state
asks for. -/
theorem resetMeetsInvariants : Obligations.ResetMeetsInvariants :=
  ⟨⟨wf_reset, rfl⟩, .inl rfl, Good_of_idle rfl rfl⟩

/-- Settles O22: of the effects of a step, only START, a group step at the last group, and reset reach STATUS. -/
theorem onlyStartCompletionAndResetWriteStatus : Obligations.OnlyStartCompletionAndResetWriteStatus := by
  intro s t h changed
  cases step_next h with
  | quiet same => exact absurd same.status changed
  | config _ write =>
    obtain ⟨-, -, status⟩ := write.frame
    exact absurd status changed
  | start idle next _ => exact .inl ⟨idle, next⟩
  | group busy _ next eq =>
    subst eq
    cases last : s.atLastGroup with
    | true =>
      have last' : s.eventTaken.atLastGroup = true := last
      exact .inr (.inl ⟨busy, rfl, next, by simp [groupStep_busy, last'], by simp [groupStep_done, last']⟩)
    | false => exact absurd (statusWord_groupStep (s := s.eventTaken) last) changed
  | reset next eq =>
    obtain ⟨rest, hp⟩ := next
    exact .inr (.inr ⟨rest, hp, eq ▸ statusWord_resetBlock _⟩)
  | store addr v _ eq => exact absurd (by subst eq; rfl) changed

/-- While BUSY = 1 a step that is no reset leaves the conversion the one its START began. -/
theorem sameConversion_of_busy_step {s t : State} (h : step s = .next t) (hb : s.busy = true)
    (noReset : ∀ rest, s.pending ≠ .reset :: rest) : SameConversion s t := by
  cases step_next h with
  | quiet same => exact same.toSameConversion
  | config idle _ => simp [hb] at idle
  | start idle _ _ => simp [hb] at idle
  | group _ _ _ eq =>
    subst eq
    exact { sameConversion_groupStep s.eventTaken with }
  | reset next _ =>
    obtain ⟨rest, hp⟩ := next
    exact absurd hp (noReset rest)
  | store addr v _ eq =>
    subst eq
    exact { sameConversion_storeByte s.eventTaken addr.toNat v with }

/-- Settles O23: with BUSY = 1 the effects that write the configuration are out, and so is reset. -/
theorem busyFreezesConfiguration : Obligations.BusyFreezesConfiguration := by
  intro s t h hb noReset
  obtain ⟨mode, channels, cthr, athr, width, height, srcBase, srcLen, dstBase, dstLen, startMem⟩ :=
    sameConversion_of_busy_step h hb noReset
  exact ⟨mode, channels, cthr, athr, width, height, srcBase, srcLen, dstBase, dstLen, startMem⟩

end Sys2Proof.Machine
end

section
/-! PROOFS. A conversion stays good (family 10_state): one lemma for each effect of a step that touches what a good
state is about. -/

namespace Sys2Proof.Machine

variable {s t : State}

/-- A quiet step touches nothing a good state is about. -/
theorem Quiet.good (h : Quiet s t) (hg : s.Good) : t.Good :=
  Good_of_sameConversion h.toSameConversion h.mem h.busy h.curXg h.curY h.traffic hg

/-- A START that finds BUSY = 0 leaves a good state: a report leaves BUSY = 0, and an accepted START begins with no
group taken (41_packer R172, R183). -/
theorem startChecked_good (idle : s.busy = false) (ha : s.CursorAligned) : s.startChecked.Good := by
  rcases startChecked_cases s with ⟨v, -, eq⟩ | ⟨passes, eq⟩ <;> rw [eq]
  · exact Good_of_idle idle ha
  · have none_done : s.clearReport.acceptStart.groupsDone = 0 := by simp [State.groupsDone, State.y, State.xg]
    obtain ⟨w_ne, h_ne, -⟩ := firstViolation_none.mp passes
    refine ⟨rfl, fun _ => ⟨passes, Nat.pos_of_ne_zero h_ne, Nat.pos_of_ne_zero w_ne⟩, fun _ _ _ => rfl, ?_, ?_⟩
    · intro _ k _
      rw [none_done, if_neg (Nat.not_lt_zero k)]
      rfl
    · intro _
      rw [none_done]
      exact ⟨_, rfl⟩

/-- A store outside the regions of a conversion changes no byte that the conversion is about (20_memory R73, R75). -/
theorem storeByte_good (hm : s.MemoryCanonical) (hg : s.Good) {a : Nat}
    (outside : s.busy = false ∨ s.inSrc a = false ∧ s.inDst a = false) (v : Byte) : (s.storeByte a v).Good := by
  rcases outside with idle | ⟨notSrc, notDst⟩
  · exact Good_of_idle idle hg.aligned
  · refine ⟨hg.aligned, hg.legal, fun hb b hsrc => ?_, fun hb k (hk : k < s.dstBytes) => ?_, hg.traffic⟩
    · have apart : b ≠ a := by
        rintro rfl
        exact absurd (hsrc.symm.trans notSrc) (by decide)
      rw [storeByte_mem, read_write_other hm.1 apart]
      exact hg.source hb b hsrc
    · have apart : s.dstBase.toNat + k ≠ a := by
        rintro rfl
        have inside : s.inDst (s.dstBase.toNat + k) = true := inDst_iff.mpr ⟨by omega, by omega⟩
        simp [inside] at notDst
      rw [storeByte_mem, storeByte_dstBase, read_write_other hm.1 apart]
      exact hg.destination hb k hk

/-- The cursor after a group is aligned, and inside the image unless that was the last group (10_state R39, 41_packer
R188). -/
theorem advance_inside (ha : s.CursorAligned) (hw : s.w % 8 = 0) (hy : s.y < s.h) (hx : s.xg < s.w) :
    s.advance.CursorAligned ∧ (s.atLastGroup = false → s.advance.y < s.h ∧ s.advance.xg < s.w) := by
  have hal : s.xg % 8 = 0 := ha
  simp only [State.CursorAligned, State.atLastGroup, Bool.and_eq_false_iff, decide_eq_false_iff_not]
  rcases advance_cursor hy with ⟨h, x, y⟩ | ⟨h, x, y⟩ <;> rw [x, y]
  · exact ⟨by omega, fun _ => ⟨hy, h⟩⟩
  · exact ⟨rfl, fun _ => ⟨by omega, by omega⟩⟩

/-- A group step of regions that do not overlap keeps the conversion good: its byte is the final value of the first DST
byte not yet final, and lies outside SRC (20_memory R67, R74, 41_packer R184). -/
theorem groupStep_good (hm : s.MemoryCanonical) (hg : s.Good) (hb : s.busy = true) (apart : s.regionsOverlap = false) :
    s.groupStep.Good := by
  obtain ⟨-, -, hw, -, hy, hx, -, -⟩ := conversion_numbers hg.legal hb
  obtain ⟨-, doneSucc, mem, traffic, -, -⟩ := groupStep_facts hm hg hb
  obtain ⟨aligned, inside⟩ := advance_inside hg.aligned hw hy hx
  have same := sameConversion_groupStep s
  have curXg : s.groupStep.xg = s.advance.xg := congrArg BitVec.toNat (groupStep_curXg s)
  have curY : s.groupStep.y = s.advance.y := congrArg BitVec.toNat (groupStep_curY s)
  have read : ∀ a, s.groupStep.mem.read a =
      if a = s.dstBase.toNat + s.groupsDone then finalByte s s.groupsDone else s.mem.read a := by
    rw [mem]
    exact fun a => read_write hm.1 _ a _
  refine ⟨?aligned, fun busy => ?legal, fun _ a hsrc => ?source, fun _ k hk => ?destination, fun _ => ?traffic⟩
  case aligned => rwa [State.CursorAligned, curXg]
  case legal =>
    have notLast : s.atLastGroup = false := by
      rw [groupStep_busy] at busy
      exact Bool.eq_false_iff.mpr fun last => by simp [last] at busy
    rw [same.firstViolation_eq, curXg, curY]
    simpa [State.w, State.h] using And.intro (hg.legal hb).1 (inside notLast)
  case source =>
    rw [same.inSrc_eq] at hsrc
    have notDst := regions_apart apart hsrc
    have written : s.inDst (s.dstBase.toNat + s.groupsDone) = true :=
      (stepAccesses_regions hg.legal hg.aligned hb).2
    rw [read, if_neg (by rintro rfl; simp [written] at notDst), same.startMem]
    exact hg.source hb a hsrc
  case destination =>
    rw [same.dstBytes_eq] at hk
    rw [same.dstBase, same.finalByte_eq, same.startMem, doneSucc, read, hg.destination hb k hk]
    rcases lt_trichotomy k s.groupsDone with lt | rfl | gt
    · simp [lt, lt.ne, Nat.lt_succ_of_lt lt]
    · simp
    · simp [gt.ne', Nat.not_lt_of_gt gt, Nat.not_lt_of_ge (Nat.succ_le_of_lt gt)]
  case traffic =>
    obtain ⟨older, before⟩ := hg.traffic hb
    exact ⟨older, by simp [traffic, before, doneSucc, same.groupAccess_eq, List.range_succ]⟩

/-- Settles O41: the invariant passes to the state with the event taken, and each effect of the step keeps it. -/
theorem stepKeepsConversionGood : Obligations.StepKeepsConversionGood := by
  intro s t hm hg h
  have good : s.eventTaken.Good := (quiet_eventTaken s).good hg
  cases step_next h with
  | quiet same => exact same.good hg
  | config idle write =>
    obtain ⟨busy, curXg, -⟩ := write.frame
    have aligned : t.CursorAligned := by
      rw [State.CursorAligned, State.xg, curXg]
      exact good.aligned
    exact Good_of_idle (busy.trans idle) aligned
  | start idle _ eq => exact eq ▸ startChecked_good idle good.aligned
  | group busy apart _ eq => exact eq ▸ groupStep_good hm good busy apart
  | reset _ eq => exact eq ▸ Good_of_idle rfl rfl
  | store addr v outside eq => exact eq ▸ storeByte_good (s := s.eventTaken) hm good outside v

end Sys2Proof.Machine
end

section
/-! PROOFS. What of a step reaches platform memory (family 20_memory), said once: the engine's turn and a platform
store, and nothing else (20_memory R60, R66). -/

namespace Sys2Proof.Machine

variable {s t : State}

/-! ### The step of each kind of event -/

/-- Where the Engine is next, the step is its turn. -/
theorem step_of_engineIsNext (h : s.EngineIsNext) : step s = engineTurn s.eventTaken := by
  rcases h with ⟨hp, fair⟩ | ⟨rest, hp⟩
  · rw [step_of_pending_nil hp, unlistedTurn_fair fair, eventTaken_of_nil hp]
  · rw [step_of_pending_cons hp, eventTaken_of_cons hp]
    rfl

theorem step_of_load {addr : Word} {rest : List Event} (h : s.pending = .load addr :: rest) :
    step s = platformLoad addr (s.withPending rest) :=
  step_of_pending_cons h

theorem step_of_store {addr : Word} {v : Byte} {rest : List Event} (h : s.pending = .store addr v :: rest) :
    step s = platformStore addr v (s.withPending rest) :=
  step_of_pending_cons h

/-- The step that performs a platform store. -/
def State.StoreStep (s t : State) (addr : Word) (v : Byte) : Prop :=
  (∃ rest, s.pending = .store addr v :: rest) ∧ t = s.eventTaken.storeByte addr.toNat v

/-- From `s` to `t` platform memory and the record of accesses stay as they are, and the memory of the START stays or
is taken from memory. -/
structure MemoryUntouched (s t : State) : Prop where
  mem : t.mem = s.mem
  startMem : t.startMem = s.startMem ∨ t.startMem = s.mem
  traffic : t.traffic = s.traffic

/-- A configuration write does not reach memory. -/
theorem ConfigWrite.memoryUntouched (h : ConfigWrite s t) : MemoryUntouched s t := by
  obtain ⟨d, h⟩ := h
  rcases h with rfl | rfl | rfl | rfl | rfl | rfl | rfl | rfl | rfl <;> exact ⟨rfl, .inl rfl, rfl⟩

/-- START makes no memory access; an accepted one records the memory it finds (41_packer R172, log 18). -/
theorem startChecked_memoryUntouched (s : State) : MemoryUntouched s s.startChecked := by
  rcases startChecked_cases s with ⟨v, -, eq⟩ | ⟨-, eq⟩ <;> rw [eq]
  · exact ⟨rfl, .inl rfl, rfl⟩
  · exact ⟨rfl, .inr rfl, rfl⟩

/-- No instruction reaches memory (20_memory R66). -/
theorem exec_memoryUntouched {i : Instr} (h : exec i s = .next t) : MemoryUntouched s t := by
  rcases exec_next h with rfl | ⟨o, rfl⟩ | ⟨d, rfl⟩ | ⟨-, write | ⟨-, rfl⟩⟩
  · exact ⟨rfl, .inl rfl, rfl⟩
  · exact ⟨rfl, .inl rfl, rfl⟩
  · exact ⟨rfl, .inl rfl, rfl⟩
  · exact write.memoryUntouched
  · exact startChecked_memoryUntouched s

/-- A load changes no memory. -/
theorem platformLoad_memoryUntouched {addr : Word} (h : platformLoad addr s = .next t) : MemoryUntouched s t := by
  rcases platformLoad_next h with ⟨-, -, -, rfl⟩ | ⟨-, rfl⟩ <;> exact ⟨rfl, .inl rfl, rfl⟩

/-- What a step can do to memory: the engine's turn, a platform store, or nothing. -/
theorem step_memory_cases (h : step s = .next t) :
    (s.EngineIsNext ∧ engineTurn s.eventTaken = .next t) ∨ (∃ addr v, s.StoreStep t addr v) ∨
      MemoryUntouched s t := by
  rcases step_cases s with ⟨hp, hs⟩ | ⟨e, rest, hp, hs⟩ <;> rw [hs] at h
  · rcases unlistedTurn_next h with ⟨fair, turn⟩ | ⟨-, rfl⟩
    · exact .inl ⟨.inl ⟨hp, fair⟩, by rwa [eventTaken_of_nil hp]⟩
    · exact .inr (.inr ⟨rfl, .inl rfl, rfl⟩)
  · rw [← eventTaken_of_cons hp] at h
    have taken {u : State} (untouched : MemoryUntouched s.eventTaken u) : MemoryUntouched s u := { untouched with }
    cases e with
    | txn w => exact .inr (.inr (taken (exec_memoryUntouched h)))
    | port we off data => exact .inr (.inr (taken (exec_memoryUntouched h)))
    | modeCode m => exact .inr (.inr (taken (exec_memoryUntouched h)))
    | engine => exact .inl ⟨.inr ⟨rest, hp⟩, h⟩
    | reset =>
      obtain rfl := Host.Outcome.next.inj h
      exact .inr (.inr ⟨rfl, .inl rfl, rfl⟩)
    | load addr => exact .inr (.inr (taken (platformLoad_memoryUntouched h)))
    | store addr v => exact .inr (.inl ⟨addr, v, ⟨rest, hp⟩, (platformStore_next h).2⟩)

/-! ### The canonical form -/

theorem MemoryUntouched.canonical (h : MemoryUntouched s t) (hm : s.MemoryCanonical) : t.MemoryCanonical := by
  refine ⟨h.mem ▸ hm.1, ?_⟩
  rcases h.startMem with eq | eq <;> rw [eq]
  · exact hm.2
  · exact hm.1

/-- A platform address has 32 bits, so its store stays below 2^32. -/
theorem storeByte_canonical (hm : s.MemoryCanonical) (addr : Word) (v : Byte) :
    (s.storeByte addr.toNat v).MemoryCanonical :=
  ⟨wf_write hm.1 addr.isLt v, hm.2⟩

/-- The engine's turn packs a group only where all its accesses are below 2^32, in a legal conversion or not (log
22). -/
theorem engineTurn_canonical (hm : s.MemoryCanonical) (h : engineTurn s = .next t) : t.MemoryCanonical := by
  rcases engineTurn_next h with ⟨-, rfl⟩ | ⟨-, -, below, ⟨-, rfl⟩ | ⟨-, rfl⟩⟩
  · exact hm
  · have written : groupWrite s s.xg s.y < Config.addressSpaceSize := below _ (by simp [State.stepAccesses])
    refine ⟨?_, ?_⟩
    · rw [groupStep_mem]
      exact wf_write hm.1 written _
    · rw [groupStep_startMem]
      exact hm.2
  · exact hm

/-- Settles O39: a step writes memory by the engine's turn or by a store, both below 2^32. -/
theorem stepKeepsMemoryCanonical : Obligations.StepKeepsMemoryCanonical := by
  intro s t hm h
  rcases step_memory_cases h with ⟨-, turn⟩ | ⟨addr, v, -, rfl⟩ | untouched
  · exact engineTurn_canonical (s := s.eventTaken) hm turn
  · exact storeByte_canonical (s := s.eventTaken) hm addr v
  · exact untouched.canonical hm

/-! ### Which byte changes -/

/-- The engine's turn changes no byte but that of the group at the cursor, which lies in DST (41_packer R186). -/
theorem engineTurn_changed_byte (hm : s.MemoryCanonical) (hl : s.ConversionLegal) (ha : s.CursorAligned)
    (h : engineTurn s = .next t) {a : Nat} (changed : t.mem.read a ≠ s.mem.read a) :
    s.busy = true ∧ s.inDst a = true ∧ a = groupWrite s s.xg s.y := by
  rcases engineTurn_next h with ⟨-, rfl⟩ | ⟨busy, -, -, ⟨-, rfl⟩ | ⟨-, rfl⟩⟩
  · exact absurd rfl changed
  · have here : a = groupWrite s s.xg s.y := by
      by_contra other
      rw [groupStep_mem, read_write_other hm.1 other] at changed
      exact changed rfl
    exact ⟨busy, here ▸ (stepAccesses_regions hl ha busy).2, here⟩
  · exact absurd rfl changed

/-- A store changes no byte but the one it names. -/
theorem storeStep_changed_byte {addr : Word} {v : Byte} (hm : s.MemoryCanonical) (h : s.StoreStep t addr v) {a : Nat}
    (changed : t.mem.read a ≠ s.mem.read a) : a = addr.toNat := by
  obtain ⟨-, rfl⟩ := h
  by_contra other
  exact changed (read_write_other hm.1 other v)

/-- Settles O24: of what a step can do to memory, only the engine's turn and a store change a byte, and only the
engine's turn makes an access on the memory port. -/
theorem onlyEngineAndStoresChangeMemory : Obligations.OnlyEngineAndStoresChangeMemory := by
  intro s t hm hl ha h
  obtain ⟨-, -, admits⟩ := step_frame h
  refine ⟨fun a changed => ?bytes, fun notEngine => ?traffic, admits⟩
  case bytes =>
    rcases step_memory_cases h with ⟨next, turn⟩ | ⟨addr, v, store⟩ | untouched
    · obtain ⟨busy, inside, here⟩ := engineTurn_changed_byte (s := s.eventTaken) hm hl ha turn changed
      exact .inl ⟨busy, inside, here, next⟩
    · obtain ⟨rest, hp⟩ := store.1
      exact .inr ⟨addr, v, rest, hp, storeStep_changed_byte hm store changed⟩
    · exact absurd (by rw [untouched.mem]) changed
  case traffic =>
    rcases step_memory_cases h with ⟨⟨none, -⟩ | ⟨rest, engine⟩, -⟩ | ⟨addr, v, -, rfl⟩ | untouched
    · exact absurd none (notEngine []).1
    · exact absurd engine (notEngine rest).2
    · rfl
    · exact untouched.traffic

end Sys2Proof.Machine
end

section
/-! PROOFS. The platform's loads and stores, and what is refused (family 20_memory): the race on DST, the stores into
busy regions, and overlapping regions (20_memory R72 to R74). -/

namespace Sys2Proof.Machine

variable {s t : State}

/-! ### Overlapping regions -/

theorem engineTurn_overlap (hb : s.busy = true) (overlap : s.regionsOverlap = true) :
    engineTurn s = .refused .overlappingRegions := by
  simp [engineTurn, hb, overlap]

theorem platformLoad_overlap (hb : s.busy = true) (overlap : s.regionsOverlap = true) {addr : Word}
    (inside : s.inDst addr.toNat = true) : platformLoad addr s = .refused .overlappingRegions := by
  simp [platformLoad, hb, overlap, inside]

/-- Settles O34: the turn and the racing load ask for regions apart, and taking the event changes neither BUSY nor the
regions. -/
theorem overlappingConversionIsRefused : Obligations.OverlappingConversionIsRefused := by
  intro s hb overlap
  have turn : engineTurn s.eventTaken = .refused .overlappingRegions :=
    engineTurn_overlap (s := s.eventTaken) hb overlap
  refine ⟨engineTurn_overlap hb overlap, fun hp fair => ?unlisted, fun rest hp => ?engine,
    fun addr inside => ⟨platformLoad_overlap hb overlap inside, fun rest hp => ?load⟩⟩
  case unlisted => rw [step_of_engineIsNext (.inl ⟨hp, fair⟩), turn]
  case engine => rw [step_of_engineIsNext (.inr ⟨rest, hp⟩), turn]
  case load =>
    rw [step_of_load hp]
    exact platformLoad_overlap (s := s.withPending rest) hb overlap inside

/-! ### Stores -/

theorem platformStore_refused {addr : Word} (hb : s.busy = true)
    (inside : s.inSrc addr.toNat = true ∨ s.inDst addr.toNat = true) (v : Byte) :
    platformStore addr v s = .refused .storeToBusyRegion := by
  simp [platformStore, hb, inside]

theorem platformStore_performed {addr : Word}
    (outside : ¬ (s.busy = true ∧ (s.inSrc addr.toNat = true ∨ s.inDst addr.toNat = true))) (v : Byte) :
    platformStore addr v s = .next (s.storeByte addr.toNat v) := by
  simp [platformStore, outside]

/-- Settles O35: taking the event changes neither BUSY nor the regions, and a write reads back at its address only. -/
theorem storesToBusyRegionsAreRefused : Obligations.StoresToBusyRegionsAreRefused := by
  intro s addr v rest hm hp
  rw [step_of_store hp]
  refine ⟨fun ⟨hb, inside⟩ => platformStore_refused (s := s.withPending rest) hb inside v, fun outside => ?_⟩
  exact ⟨_, platformStore_performed (s := s.withPending rest) outside v, rfl, read_write_same hm.1 _ v,
    fun a other => read_write_other hm.1 other v⟩

/-! ### Loads -/

/-- FetchPixel as the model computes it and as the statements write it out. -/
theorem pixelBit_eq_imageBit (s : State) (m : Memory) (x y : Nat) : pixelBit s m x y = imageBit s m x y := by
  have four : s.n = 4 ↔ s.channels = 4#3 := (BitVec.toNat_inj (x := s.channels) (y := 4#3))
  simp only [pixelBit, imageBit, pixelAddr, four]
  rfl

/-- Bit `pos` of the final value of DST byte `k` is the classified bit of the `pos`-th pixel of group `k`, of the source
at the START (20_memory R63, R75). -/
theorem getLsbD_finalByte (s : State) (k : Nat) {pos : Nat} (h : pos < 8) :
    (finalByte s k).getLsbD pos = imageBit s s.startMem (8 * (k % (s.w / 8)) + pos) (k / (s.w / 8)) := by
  rw [finalByte, getLsbD_groupByte _ _ _ _ h, pixelBit_eq_imageBit]

theorem platformLoad_racing {addr : Word} (hb : s.busy = true) (inside : s.inDst addr.toNat = true)
    (apart : s.regionsOverlap = false) :
    platformLoad addr s = .next (s.countRace.observe (.platformRead (racingByte s addr.toNat))) := by
  simp [platformLoad, hb, inside, apart]

theorem platformLoad_settled {addr : Word} (h : s.busy = false ∨ s.inDst addr.toNat = false) :
    platformLoad addr s = .next (s.observe (.platformRead (s.mem.read addr.toNat))) := by
  rcases h with idle | outside
  · simp [platformLoad, idle]
  · simp [platformLoad, outside]

/-- The two values of a racing load (20_memory R72). -/
theorem racingByte_cases (s : State) (a : Nat) :
    racingByte s a = s.startMem.read a ∨ racingByte s a = finalByte s (a - s.dstBase.toNat) := by
  unfold racingByte
  split
  · exact .inr rfl
  · exact .inl rfl

/-- Settles O36: a racing load has two values, whichever the free value picks, and any other load reads memory. -/
theorem racingLoadReturnsOldOrFinal : Obligations.RacingLoadReturnsOldOrFinal := by
  intro s addr rest hp
  rw [step_of_load hp]
  refine ⟨fun hb inside apart => ?racing, fun settled => platformLoad_settled (s := s.withPending rest) settled⟩
  refine ⟨_, racingByte s addr.toNat, platformLoad_racing (s := s.withPending rest) hb inside apart, fun _ => rfl,
    rfl, ?_⟩
  rcases racingByte_cases s addr.toNat with old | final
  · exact .inl old
  · exact .inr fun pos h => by rw [final, getLsbD_finalByte s _ h]; rfl

end Sys2Proof.Machine
end

section
/-! PROOFS. A conversion's steps (family 20_memory): none faults, and the completing one leaves every DST byte final
(20_memory R69, R71). -/

namespace Sys2Proof.Machine

variable {s t : State}

/-! ### No fault -/

/-- Every instruction answers a next state (30_encoding R100). -/
theorem exec_completes (i : Instr) (s : State) : ∃ t, exec i s = .next t := by
  cases i <;> exact ⟨_, rfl⟩

theorem exec_ne_fault (i : Instr) (s : State) (r : Fault) : exec i s ≠ .fault r := by
  obtain ⟨t, h⟩ := exec_completes i s
  simp [h]

theorem platformLoad_ne_fault (addr : Word) (s : State) (r : Fault) : platformLoad addr s ≠ .fault r := by
  unfold platformLoad
  split_ifs <;> simp

theorem platformStore_ne_fault (addr : Word) (v : Byte) (s : State) (r : Fault) :
    platformStore addr v s ≠ .fault r := by
  unfold platformStore
  split_ifs <;> simp

/-- An engine's turn that faults has an access at or above 2^32 (log 13). -/
theorem engineTurn_fault {r : Fault} (h : engineTurn s = .fault r) :
    s.busy = true ∧ ∃ a ∈ s.stepAccesses, Config.addressSpaceSize ≤ a := by
  unfold engineTurn at h
  split_ifs at h with idle _ above
  exact ⟨by simpa using idle, by simpa using above⟩

/-- Only the engine's turn can fault. -/
theorem step_fault {r : Fault} (h : step s = .fault r) : engineTurn s.eventTaken = .fault r := by
  rcases step_cases s with ⟨hp, hs⟩ | ⟨e, rest, hp, hs⟩ <;> rw [hs] at h
  · rw [eventTaken_of_nil hp]
    unfold unlistedTurn at h
    split_ifs at h
    exact h
  · rw [eventTaken_of_cons hp]
    cases e with
    | txn w => exact absurd h (exec_ne_fault _ _ r)
    | port we off data => exact absurd h (exec_ne_fault _ _ r)
    | modeCode m => exact absurd h (exec_ne_fault _ _ r)
    | engine => exact h
    | reset => simp [handle, platformReset] at h
    | load addr => exact absurd h (platformLoad_ne_fault addr _ r)
    | store addr v => exact absurd h (platformStore_ne_fault addr v _ r)

/-- Settles O43: only the engine's turn faults, and the accesses of a legal conversion lie below 2^32. -/
theorem goodStateNeverFaults : Obligations.GoodStateNeverFaults := by
  intro s aligned legal r h
  obtain ⟨busy, a, access, above⟩ := engineTurn_fault (step_fault h)
  have below := stepAccesses_below (s := s.eventTaken) legal aligned busy a access
  omega

/-! ### Completion -/

/-- What DST holds after a group step: one final value more (20_memory R71, 41_packer R184). -/
theorem groupStep_read_dst (hm : s.MemoryCanonical) (hg : s.Good) (hb : s.busy = true) {k : Nat}
    (hk : k < s.dstBytes) :
    s.groupStep.mem.read (s.dstBase.toNat + k) =
      if k < s.groupsDone + 1 then finalByte s k else s.startMem.read (s.dstBase.toNat + k) := by
  obtain ⟨-, -, mem, -⟩ := groupStep_facts hm hg hb
  rw [mem, read_write hm.1, hg.destination hb k hk]
  rcases lt_trichotomy k s.groupsDone with lt | rfl | gt
  · simp [lt, lt.ne, Nat.lt_succ_of_lt lt]
  · simp
  · simp [gt.ne', Nat.not_lt_of_gt gt, Nat.not_lt_of_ge (Nat.succ_le_of_lt gt)]

/-- The only step that ends a conversion with DONE = 1 is the group step of the last group (10_state R24). -/
theorem step_completes (h : step s = .next t) (hb : s.busy = true) (idle : t.busy = false) (done : t.done = true) :
    s.atLastGroup = true ∧ t = s.eventTaken.groupStep := by
  cases step_next h with
  | quiet same => simp [same.busy, hb] at idle
  | config before _ => simp [before] at hb
  | start before _ _ => simp [before] at hb
  | group _ _ _ eq =>
    cases last : s.atLastGroup with
    | true => exact ⟨rfl, eq⟩
    | false =>
      have last' : s.eventTaken.atLastGroup = false := last
      have busy : t.busy = s.busy := by
        rw [eq, groupStep_busy, last']
        rfl
      simp [busy, hb] at idle
  | reset _ eq => simp [eq] at done
  | store addr v _ eq =>
    subst eq
    exact absurd (hb.symm.trans idle) (by decide)

/-- The DST byte of pixel (x, y), and the place of the pixel in it, as the group's column and row (41_packer R187). -/
theorem pixel_of_group (hw : s.w % 8 = 0) {x : Nat} (hx : x < s.w) (y : Nat) :
    8 * ((y * (s.w / 8) + x / 8) % (s.w / 8)) + x % 8 = x ∧ (y * (s.w / 8) + x / 8) / (s.w / 8) = y := by
  have column : x / 8 < s.w / 8 := by omega
  rw [Nat.mul_comm y, Nat.mul_add_mod, Nat.mod_eq_of_lt column, Nat.mul_add_div (by omega), Nat.div_eq_of_lt column]
  omega

/-- The bit of pixel (x, y) in the final value of its DST byte. -/
theorem getLsbD_finalByte_pixel (hw : s.w % 8 = 0) {x : Nat} (hx : x < s.w) (y : Nat) :
    (finalByte s (y * (s.w / 8) + x / 8)).getLsbD (x % 8) = imageBit s s.startMem x y := by
  obtain ⟨column, row⟩ := pixel_of_group hw hx y
  rw [getLsbD_finalByte s _ (Nat.mod_lt x (by decide)), column, row]

/-- Settles O44: the completing step is the last group's, after which every DST byte is final. -/
theorem completionShowsFinalBytes : Obligations.CompletionShowsFinalBytes := by
  intro s t hm hg h hb idle done x y hx hy
  obtain ⟨last, rfl⟩ := step_completes h hb idle done
  obtain ⟨-, -, hw, -, rowIn, columnIn, -, -⟩ := conversion_numbers hg.legal hb
  have every : s.groupsDone + 1 = s.dstBytes := (atLastGroup_iff hg.aligned hw rowIn columnIn).mp last
  have inside : y * (s.w / 8) + x / 8 < s.dstBytes :=
    group_lt hy (by simp only [State.w] at hw ⊢; omega)
  have good : s.eventTaken.Good := (quiet_eventTaken s).good hg
  have byte : s.eventTaken.groupStep.mem.read (s.dstBase.toNat + (y * (s.w / 8) + x / 8)) =
      finalByte s (y * (s.w / 8) + x / 8) :=
    (groupStep_read_dst (s := s.eventTaken) hm good hb inside).trans (if_pos (every ▸ inside))
  calc _ = (finalByte s (y * (s.w / 8) + x / 8)).getLsbD (x % 8) := congrArg (BitVec.getLsbD · _) byte
    _ = imageBit s s.startMem x y := getLsbD_finalByte_pixel hw hx y

end Sys2Proof.Machine
end

section
/-! PROOFS. The stuck engine (family 20_memory): no step but a reset lets it go on (20_memory R80). -/

namespace Sys2Proof.Machine

variable {s t u : State}

/-! ### What depends on the configuration alone -/

theorem SameConversion.inDst_eq (h : SameConversion s t) (a : Nat) : t.inDst a = s.inDst a := by
  simp only [State.inDst, h.dstBytes_eq, h.dstBase]

theorem SameConversion.srcBytes_eq (h : SameConversion s t) : t.srcBytes = s.srcBytes := by
  simp only [State.srcBytes, State.w, State.h, State.n, h.channels, h.width, h.height]

theorem SameConversion.regionsOverlap_eq (h : SameConversion s t) : t.regionsOverlap = s.regionsOverlap := by
  simp only [State.regionsOverlap, h.dstBytes_eq, h.srcBytes_eq, h.srcBase, h.dstBase]

/-- The accesses of the next group step depend on the configuration and the cursor. -/
theorem SameConversion.stepAccesses_eq (h : SameConversion s t) (hx : t.curXg = s.curXg) (hy : t.curY = s.curY) :
    t.stepAccesses = s.stepAccesses := by
  simp only [State.stepAccesses, groupReads, groupWrite, pixelReads, pixelAddr, State.xg, State.y, State.w, State.n, hx,
    hy, h.channels, h.width, h.srcBase, h.dstBase]
  rfl

theorem admitted_congr (h : t.admits = s.admits) (a : Nat) : t.admitted a = s.admitted a := by
  simp only [State.admitted, h]

/-! ### An engine that stands still -/

/-- From `s` to `t` BUSY and the rest of STATUS, the cursor and the record of accesses stay as they are. -/
structure EngineStill (s t : State) : Prop where
  busy : t.busy = s.busy
  status : statusWord t = statusWord s
  curXg : t.curXg = s.curXg
  curY : t.curY = s.curY
  traffic : t.traffic = s.traffic

theorem EngineStill.refl (s : State) : EngineStill s s := ⟨rfl, rfl, rfl, rfl, rfl⟩

theorem EngineStill.trans (h : EngineStill s u) (k : EngineStill u t) : EngineStill s t :=
  ⟨k.busy.trans h.busy, k.status.trans h.status, k.curXg.trans h.curXg, k.curY.trans h.curY,
    k.traffic.trans h.traffic⟩

theorem Quiet.engineStill (h : Quiet s t) : EngineStill s t := { h with }

/-- What leaves the conversion where it stood, and MEM_ADMITS, leaves a stuck engine stuck. -/
theorem EngineStill.stuck (h : EngineStill s t) (same : SameConversion s t) (admits : t.admits = s.admits)
    (hs : s.Stuck) : t.Stuck := by
  have accesses := same.stepAccesses_eq h.curXg h.curY
  obtain ⟨a, access, refused⟩ := hs.unadmitted
  refine ⟨h.busy.trans hs.busy, same.regionsOverlap_eq.trans hs.disjoint, ?_, a, ?_, ?_⟩
  · rw [accesses]
    exact hs.inSpace
  · rwa [accesses]
  · rwa [admitted_congr admits]

/-- Every turn of a stuck engine changes nothing (20_memory R80, log 7). -/
theorem State.Stuck.engineTurn (h : s.Stuck) : engineTurn s = .next s :=
  engineTurn_stuck h.busy h.disjoint h.inSpace h.unadmitted

/-- A step that is no reset leaves a stuck engine where it stands. -/
theorem State.Stuck.step_still (hs : s.Stuck) (h : step s = .next t)
    (noReset : ∀ rest, s.pending ≠ .reset :: rest) : EngineStill s t := by
  cases step_next h with
  | quiet same => exact same.engineStill
  | config idle _ => simp [hs.busy] at idle
  | start idle _ _ => simp [hs.busy] at idle
  | group _ _ next _ =>
    have taken := quiet_eventTaken s
    have stuck : s.eventTaken.Stuck := taken.engineStill.stuck taken.toSameConversion rfl hs
    rw [step_of_engineIsNext next, stuck.engineTurn] at h
    obtain rfl := Host.Outcome.next.inj h
    exact taken.engineStill
  | reset next _ =>
    obtain ⟨rest, hp⟩ := next
    exact absurd hp (noReset rest)
  | store addr v _ eq => exact eq ▸ ⟨rfl, rfl, rfl, rfl, rfl⟩

theorem State.Stuck.step (hs : s.Stuck) (h : step s = .next t) (noReset : ∀ rest, s.pending ≠ .reset :: rest) :
    t.Stuck ∧ EngineStill s t := by
  have still := hs.step_still h noReset
  obtain ⟨-, -, admits⟩ := step_frame h
  exact ⟨still.stuck (sameConversion_of_busy_step h hs.busy noReset) admits hs, still⟩

/-! ### Runs -/

/-- The first step of a run that answers a next state. -/
theorem run_succ_next {k : Nat} (h : core.run (k + 1) s = .next t) :
    ∃ u, Machine.step s = .next u ∧ core.run k u = .next t := by
  cases first : Machine.step s with
  | next u => exact ⟨u, rfl, by rwa [run_succ first] at h⟩
  | fault r => simp [Host.Core.run, show core.step s = .fault r from first] at h
  | refused r => simp [Host.Core.run, show core.step s = .refused r from first] at h

/-- A run without a reset leaves a stuck engine where it stands. -/
theorem State.Stuck.run (k : Nat) (hs : s.Stuck) (noReset : Event.reset ∉ s.pending) (h : core.run k s = .next t) :
    t.Stuck ∧ EngineStill s t := by
  induction k generalizing s with
  | zero =>
    obtain rfl := Host.Outcome.next.inj h
    exact ⟨hs, .refl _⟩
  | succ k ih =>
    obtain ⟨u, first, rest⟩ := run_succ_next h
    obtain ⟨stuck, still⟩ := hs.step first fun rest hp => noReset (by simp [hp])
    obtain ⟨pending, -, -⟩ := step_frame first
    obtain ⟨stuck', still'⟩ := ih stuck (fun mem => noReset (List.mem_of_mem_tail (pending ▸ mem))) rest
    exact ⟨stuck', still.trans still'⟩

/-- With nothing pending a stuck state is its own next state, under either schedule. -/
theorem State.Stuck.step_unlisted (hs : s.Stuck) (hp : s.pending = []) : Machine.step s = .next s := by
  rw [step_of_pending_nil hp]
  cases fair : s.fair with
  | true => rw [unlistedTurn_fair fair, hs.engineTurn]
  | false => exact unlistedTurn_unfair fair

/-- Settles O32: a stuck state's step leaves it stuck, a run by induction on its length, and with nothing pending the
state is a fixed point. -/
theorem unadmittedAccessLeavesEngineStuck : Obligations.UnadmittedAccessLeavesEngineStuck := by
  intro s hs
  refine ⟨hs.engineTurn, fun t h noReset => ?step, fun k t noReset h => ?run,
    fun hp k => run_fixed (hs.step_unlisted hp) k⟩
  case step =>
    obtain ⟨stuck, still⟩ := hs.step h noReset
    exact ⟨stuck, still.curY, still.curXg, still.traffic, still.status⟩
  case run =>
    obtain ⟨stuck, still⟩ := hs.run k noReset h
    exact ⟨stuck, still.curY, still.curXg, still.traffic, still.status⟩

end Sys2Proof.Machine
end

section
/-! PROOFS. The accesses of a group step and of a conversion (family 20_memory): consecutive bytes of SRC, one byte of
DST for each group (20_memory R66, R67, R70). -/

namespace Sys2Proof.Machine

variable {s t u : State}

/-! ### Consecutive addresses -/

/-- Consecutive blocks of `c` addresses are one block. -/
theorem flatMap_range'_blocks (a c m : Nat) :
    (List.range m).flatMap (fun k => List.range' (a + k * c) c) = List.range' a (m * c) := by
  induction m with
  | zero => simp
  | succ m ih =>
    rw [List.range_succ, List.flatMap_append, ih, List.flatMap_singleton, List.range'_append_1, Nat.succ_mul]

/-- FetchPixel reads the `n` bytes of the pixel in a row (20_memory R62). -/
theorem pixelReads_eq_range' (hn : s.n = 3 ∨ s.n = 4) (x y : Nat) :
    pixelReads s x y = List.range' (pixelAddr s x y) s.n := by
  unfold pixelReads
  rcases hn with hn | hn <;> simp [hn, List.range'_succ]

/-- A group step reads the `8 * n` bytes from its first pixel on (20_memory R70). -/
theorem groupReads_eq_range' (hn : s.n = 3 ∨ s.n = 4) (xg y : Nat) :
    groupReads s xg y = List.range' (pixelAddr s xg y) (8 * s.n) := by
  have pixel : ∀ pos, pixelAddr s (xg + pos) y = pixelAddr s xg y + pos * s.n := by
    intro pos
    simp only [pixelAddr]
    ring
  simp only [groupReads, pixelReads_eq_range' hn, pixel, flatMap_range'_blocks]

/-- Settles O31: the reads are `8 * n` consecutive addresses of SRC, and the written byte reads as written. -/
theorem groupStepStaysInItsRegions : Obligations.GroupStepStaysInItsRegions := by
  intro s hm hl ha hb apart admitted
  obtain ⟨-, -, -, hn, -, -, -, -⟩ := conversion_numbers hl hb
  obtain ⟨reads, write⟩ := stepAccesses_regions hl ha hb
  refine ⟨s.groupStep, _, engineTurn_enabled hb apart (stepAccesses_below hl ha hb) admitted, groupStep_traffic s,
    ?length, ?nodup, reads, write, ?value⟩
  case length => simp [groupReads_eq_range' hn, State.n]
  case nodup => simp [groupReads_eq_range' hn, List.nodup_range']
  case value => rw [groupStep_mem, read_write_same hm.1]

/-- The reads of group `k` are the `k`-th block of `8 * n` bytes of SRC: the image is row-major, and W is a multiple of
8 (20_memory R62, 41_packer R188). -/
theorem groupAccess_reads (hn : s.n = 3 ∨ s.n = 4) (hw : s.w % 8 = 0) (k : Nat) :
    (groupAccess s k).reads = List.range' (s.srcBase.toNat + k * (8 * s.n)) (8 * s.n) := by
  have width : 8 * (s.w / 8) = s.w := by omega
  have pixels : groupRow s k * s.w + groupColumn s k = 8 * k := by
    calc groupRow s k * s.w + groupColumn s k
        = k / (s.w / 8) * (8 * (s.w / 8)) + 8 * (k % (s.w / 8)) := by rw [width]; rfl
      _ = 8 * (s.w / 8 * (k / (s.w / 8)) + k % (s.w / 8)) := by ring
      _ = 8 * k := by rw [Nat.div_add_mod]
  have first : pixelAddr s (groupColumn s k) (groupRow s k) = s.srcBase.toNat + k * (8 * s.n) := by
    rw [pixelAddr, pixels]
    ring
  rw [groupAccess, groupReads_eq_range' hn, first]

/-- All groups together read the SRC region, in any order of the groups. -/
theorem reads_of_all_groups (hn : s.n = 3 ∨ s.n = 4) (hw : s.w % 8 = 0) :
    (((List.range s.dstBytes).map (groupAccess s)).reverse.flatMap GroupAccess.reads).Perm
      (List.range' s.srcBase.toNat s.srcBytes) := by
  have size : s.dstBytes * (8 * s.n) = s.srcBytes := by
    calc s.dstBytes * (8 * s.n) = 8 * (s.w / 8) * s.h * s.n := by simp only [State.dstBytes]; ring
      _ = s.srcBytes := by rw [show 8 * (s.w / 8) = s.w by omega]; rfl
  have ascending : ((List.range s.dstBytes).map (groupAccess s)).flatMap GroupAccess.reads =
      List.range' s.srcBase.toNat s.srcBytes := by
    rw [List.flatMap_map, ← size, ← flatMap_range'_blocks]
    simp only [groupAccess_reads hn hw]
  exact ascending ▸ (List.reverse_perm _).flatMap_right _

/-- All groups together write the DST region in ascending order (41_packer R186, R188). -/
theorem writes_of_all_groups (s : State) :
    ((List.range s.dstBytes).map (groupAccess s)).map GroupAccess.write = List.range' s.dstBase.toNat s.dstBytes := by
  rw [List.map_map, List.range'_eq_map_range]
  rfl

/-! ### A conversion that nothing holds up -/

/-- A good conversion under way, with its regions apart and admitted, and the Engine having every turn: nothing is
pending and the schedule is weakly fair (70_reset R299, log 2). -/
structure State.Converting (s : State) : Prop where
  canonical : s.MemoryCanonical
  good : s.Good
  busy : s.busy = true
  apart : s.regionsOverlap = false
  admits : ∀ a, s.inSrc a = true ∨ s.inDst a = true → s.admitted a = true
  alone : s.pending = []
  fair : s.fair = true

/-- Each step of such a conversion is a group step. -/
theorem State.Converting.step (c : s.Converting) : step s = .next s.groupStep := by
  obtain ⟨reads, write⟩ := stepAccesses_regions c.good.legal c.good.aligned c.busy
  have admitted : ∀ a ∈ s.stepAccesses, s.admitted a = true := by
    intro a access
    rcases List.mem_append.mp access with read | written
    · exact c.admits a (.inl (reads a read))
    · obtain rfl := List.mem_singleton.mp written
      exact c.admits _ (.inr write)
  rw [step_of_engineIsNext (.inl ⟨c.alone, c.fair⟩), eventTaken_of_nil c.alone]
  exact engineTurn_enabled c.busy c.apart (stepAccesses_below c.good.legal c.good.aligned c.busy) admitted

/-- It goes on until the last group. -/
theorem State.Converting.groupStep (c : s.Converting) (more : s.groupsDone + 1 < s.dstBytes) :
    s.groupStep.Converting := by
  have same := sameConversion_groupStep s
  obtain ⟨canonical, -, -, -, last, -⟩ := groupStep_facts c.canonical c.good c.busy
  have notLast : ¬ s.atLastGroup = true := fun atLast => by
    have := last.mp atLast
    omega
  refine ⟨canonical, groupStep_good c.canonical c.good c.busy c.apart, ?_, same.regionsOverlap_eq.trans c.apart, ?_,
    by simpa using c.alone, by simpa using c.fair⟩
  · rw [groupStep_busy, if_neg notLast, c.busy]
  · intro a inside
    rw [same.inSrc_eq, same.inDst_eq] at inside
    rw [admitted_congr (groupStep_admits s)]
    exact c.admits a inside

/-- From `s` to `t` the conversion took `k` groups, each accessed once and in order. -/
structure GroupsTaken (s t : State) (k : Nat) : Prop extends SameConversion s t where
  groupsDone : t.groupsDone = s.groupsDone + k
  traffic : t.traffic = ((List.range' s.groupsDone k).map (groupAccess s)).reverse ++ s.traffic

theorem GroupsTaken.zero (s : State) : GroupsTaken s s 0 :=
  { (by constructor <;> rfl : SameConversion s s) with groupsDone := rfl, traffic := rfl }

/-- One group step takes one group more. -/
theorem GroupsTaken.groupStep {k : Nat} (h : GroupsTaken s t k) (c : t.Converting) :
    GroupsTaken s t.groupStep (k + 1) := by
  obtain ⟨-, done, -, traffic, -⟩ := groupStep_facts c.canonical c.good c.busy
  refine ⟨by constructor <;> simp [h.mode, h.channels, h.cthr, h.athr, h.width, h.height, h.srcBase, h.srcLen,
    h.dstBase, h.dstLen, h.startMem], ?_, ?_⟩
  · rw [done, h.groupsDone, Nat.add_assoc]
  · rw [traffic, h.groupAccess_eq, h.groupsDone, h.traffic, List.range'_1_concat, List.map_append, List.reverse_append]
    rfl

/-- A run continued by one step. -/
theorem run_succ_last {k : Nat} (h : core.run k s = .next t) (last : Machine.step t = .next u) :
    core.run (k + 1) s = .next u := by
  induction k generalizing s with
  | zero =>
    obtain rfl := Host.Outcome.next.inj h
    exact run_succ last 0
  | succ k ih =>
    obtain ⟨v, first, rest⟩ := run_succ_next h
    rw [run_succ first, ih rest]

/-- A run of fewer steps than there are groups left takes one group with each step. -/
theorem State.Converting.run {k : Nat} (c : s.Converting) (hk : s.groupsDone + k < s.dstBytes) :
    ∃ t, core.run k s = .next t ∧ t.Converting ∧ GroupsTaken s t k := by
  induction k with
  | zero => exact ⟨s, rfl, c, .zero s⟩
  | succ k ih =>
    obtain ⟨t, run, conv, taken⟩ := ih (by omega)
    have more : t.groupsDone + 1 < t.dstBytes := by
      rw [taken.groupsDone, taken.dstBytes_eq]
      omega
    exact ⟨t.groupStep, run_succ_last run conv.step, conv.groupStep more, taken.groupStep conv⟩

/-! ### From START to the end -/

/-- The state that an accepted START with nothing else pending leaves (41_packer R183). -/
def State.started (s : State) : State := (s.withPending []).clearReport.acceptStart

theorem started_groupsDone (s : State) : s.started.groupsDone = 0 := by
  simp [State.started, State.groupsDone, State.y, State.xg]

theorem startChecked_accepted (passes : firstViolation s = none) : s.startChecked = s.clearReport.acceptStart := by
  simp [State.startChecked, passes]

/-- START is accepted where every check passes. -/
theorem step_start (h : s.Startable) (start : s.StartPending) : step s = .next s.started :=
  calc step s = exec (decodeTxn 0x1100000001#37) (s.withPending []) := step_of_pending_cons start
    _ = .next (unlessBusy State.startChecked (s.withPending [])) := rfl
    _ = .next s.started := by
      rw [unlessBusy_idle (s := s.withPending []) h.idle, startChecked_accepted (s := s.withPending []) h.checks]
      rfl

/-- An accepted START sets the cursor, so wherever the cursor stood the conversion begins good, as from column 0. -/
theorem started_good (h : s.Startable) : s.started.Good := by
  have good := startChecked_good (s := { s.withPending [] with curXg := 0#16 }) h.idle rfl
  rw [startChecked_accepted (s := { s.withPending [] with curXg := 0#16 }) h.checks] at good
  exact good

theorem started_converting (hm : s.MemoryCanonical) (h : s.Startable) : s.started.Converting :=
  ⟨⟨hm.1, hm.1⟩, started_good h, rfl, h.disjoint, h.admits, rfl, h.fair⟩

/-- Settles O49: after START the run takes every group of the image once, in order. -/
theorem conversionAccessesEachByteOnce : Obligations.ConversionAccessesEachByteOnce := by
  intro s hm h start groups
  have conv := started_converting hm h
  obtain ⟨w_pos, h_pos, hw, hn, -⟩ := conversion_numbers conv.good.legal conv.busy
  have positive : 0 < s.started.dstBytes := Nat.mul_pos (by omega) h_pos
  obtain ⟨k, all⟩ := Nat.exists_eq_succ_of_ne_zero positive.ne'
  obtain ⟨t, run, last, taken⟩ := conv.run (k := k) (by rw [started_groupsDone, all]; omega)
  have traffic := (taken.groupStep last).traffic
  rw [started_groupsDone, ← List.range_eq_range', ← Nat.succ_eq_add_one, ← all] at traffic
  refine ⟨t.groupStep, _, ?run, traffic, ?reads, ?writes⟩
  case run =>
    have count : 1 + groups = (k + 1) + 1 := by rw [Nat.add_comm 1]; exact congrArg (· + 1) all
    rw [count, run_succ (step_start h start), run_succ_last run last.step]
  case reads => exact reads_of_all_groups (s := s.started) hn hw
  case writes =>
    rw [List.reverse_reverse]
    exact writes_of_all_groups s.started

end Sys2Proof.Machine
end

section
/-! PROOFS. Decode and encode agree (family 30_encoding): a transaction is a direction, a register and DATA, and both
directions of the codec are stated over these three (30_encoding R90, R94, R96). -/

namespace Sys2Proof

/-! ### The transaction of a direction and a register -/

/-- The read transaction of a register (30_encoding R94). -/
def readOf : RegName → Instr
  | .id => .rdId
  | .ctrl => .rdCtrl
  | .status => .rdStatus
  | .cfg => .rdCfg
  | .cthr => .rdCthr
  | .athr => .rdAthr
  | .width => .rdWidth
  | .height => .rdHeight
  | .srcBase => .rdSrcBase
  | .srcLen => .rdSrcLen
  | .dstBase => .rdDstBase
  | .dstLen => .rdDstLen
  | .bytes => .rdBytes
  | .pixel => .rdPixel
  | .cls => .rdClass
  | .rsv15 => .rdRsv15

/-- The write transaction of a register; CTRL is the one register with two rows, told apart by DATA[0] (30_encoding
R94, 42_host_access R222, R223). -/
def writeOf : RegName → Word → Instr
  | .id, data => .wrId data
  | .ctrl, data => if data.getLsbD 0 then .wrCtrlStart data else .wrCtrlNop data
  | .status, data => .wrStatus data
  | .cfg, data => .wrCfg data
  | .cthr, data => .wrCthr data
  | .athr, data => .wrAthr data
  | .width, data => .wrWidth data
  | .height, data => .wrHeight data
  | .srcBase, data => .wrSrcBase data
  | .srcLen, data => .wrSrcLen data
  | .dstBase, data => .wrDstBase data
  | .dstLen, data => .wrDstLen data
  | .bytes, data => .wrBytes data
  | .pixel, data => .wrPixel data
  | .cls, data => .wrClass data
  | .rsv15, data => .wrRsv15 data

theorem writeOf_ctrl_start {data : Word} (h : data.getLsbD 0 = true) : writeOf .ctrl data = .wrCtrlStart data :=
  if_pos h

theorem writeOf_ctrl_nop {data : Word} (h : data.getLsbD 0 = false) : writeOf .ctrl data = .wrCtrlNop data :=
  if_neg (by simp only [h, Bool.false_eq_true, not_false_eq_true])

/-! ### Decoding and encoding, by direction and register -/

/-- A word with WE = 0 decodes to the read of its register. -/
theorem decodeTxn_read {w : BitVec 37} (h : txnWe w = false) : decodeTxn w = readOf (regOfIndex (txnIdx w)) := by
  unfold decodeTxn
  rw [h]
  cases regOfIndex (txnIdx w) <;> rfl

/-- A word with WE = 1 decodes to the write of its register, with its DATA. -/
theorem decodeTxn_write {w : BitVec 37} (h : txnWe w = true) :
    decodeTxn w = writeOf (regOfIndex (txnIdx w)) (txnData w) := by
  unfold decodeTxn
  rw [h]
  cases regOfIndex (txnIdx w) <;> rfl

@[simp] theorem decodeTxn_txnWord_read (r : RegName) (data : Word) :
    decodeTxn (txnWord false r.index data) = readOf r := by
  simp [decodeTxn_read]

@[simp] theorem decodeTxn_txnWord_write (r : RegName) (data : Word) :
    decodeTxn (txnWord true r.index data) = writeOf r data := by
  simp [decodeTxn_write]

theorem encode_readOf (r : RegName) : encode (readOf r) = .txn37 (txnWord false r.index 0#32) := by
  cases r <;> rfl

theorem encode_writeOf (r : RegName) (data : Word) : encode (writeOf r data) = .txn37 (txnWord true r.index data) := by
  cases r with
  | ctrl =>
    cases start : data.getLsbD 0 with
    | true => rw [writeOf_ctrl_start start]; rfl
    | false => rw [writeOf_ctrl_nop start]; rfl
  | _ => rfl

/-- A code with bit 2 set is one of the four invalid ones (40_classifier R139). -/
theorem decodeMode_of_bit2 : ∀ code : BitVec 3, code.getLsbD 2 = true → decodeMode code = .modeInvalid code := by
  decide

theorem encode_decodeMode : ∀ m : BitVec 3, encode (decodeMode m) = .mode3 m := by
  decide

/-! ### The two round trips -/

/-- Settles O2: an instruction's word has the fields of its direction, register and DATA, and well-formedness says which
of the two rows of a CTRL write it is, and that an invalid mode code is one. -/
theorem decodeOfEncodeIsIdentity : Obligations.DecodeOfEncodeIsIdentity := by
  intro i wf
  cases i with
  | wrCtrlStart data => exact (decodeTxn_txnWord_write .ctrl data).trans (writeOf_ctrl_start wf)
  | wrCtrlNop data =>
    have nop : data.getLsbD 0 = false := by simpa [Instr.wf] using wf
    exact (decodeTxn_txnWord_write .ctrl data).trans (writeOf_ctrl_nop nop)
  | modeInvalid code => exact decodeMode_of_bit2 code wf
  | modeColorAndAlpha => rfl
  | modeColorOrAlpha => rfl
  | modeOnlyAlpha => rfl
  | modeIgnoreAlpha => rfl
  | _ => simp only [encode, decode, decodeTxn_txnWord_read, decodeTxn_txnWord_write, readOf, writeOf]

/-- Settles O3: the encoder puts back WE and IDX, and DATA where WE = 1. -/
theorem encodeOfDecodeIsCanonical : Obligations.EncodeOfDecodeIsCanonical := by
  refine ⟨fun w => ?word, encode_decodeMode⟩
  change encode (decodeTxn w) = .txn37 (if txnWe w then w else w &&& 0x1F00000000#37)
  cases we : txnWe w with
  | true =>
    have fields := txnWord_fields w
    rw [we] at fields
    rw [decodeTxn_write we, encode_writeOf, index_regOfIndex, fields, if_pos rfl]
  | false => rw [decodeTxn_read we, encode_readOf, index_regOfIndex, if_neg Bool.false_ne_true, and_rowMask, we]

end Sys2Proof
end

section
/-! PROOFS. The opcode table (family 30_encoding): every word matches one row of it (30_encoding R100, R101). -/

namespace Sys2Proof.Machine

/-! ### Every word matches a row -/

theorem setWidth_eq_txnData (w : BitVec 37) : w.setWidth 32 = txnData w :=
  BitVec.setWidth_eq_extractLsb' (by decide)

/-- The row of the read of a register. -/
def readRow (r : RegName) : TableRow := ⟨txnWord false r.index 0#32, 0x1F00000000#37, fun _ => readOf r⟩

/-- The row of the write of a register other than CTRL. -/
def writeRow (r : RegName) : TableRow := ⟨txnWord true r.index 0#32, 0x1F00000000#37, writeOf r⟩

/-- The two rows of a CTRL write, by DATA[0]. -/
def ctrlRow (start : Bool) : TableRow :=
  if start then ⟨0x1100000001#37, 0x1F00000001#37, .wrCtrlStart⟩ else ⟨0x1100000000#37, 0x1F00000001#37, .wrCtrlNop⟩

/-- The table lists a register's read before its write, in the order of the indices; CTRL, index 1, has a row more. -/
theorem readRow_mem (r : RegName) : readRow r ∈ txnRows :=
  List.mem_of_getElem? (i := 2 * r.index.toNat + if r.index.toNat ≤ 1 then 0 else 1) (by cases r <;> rfl)

theorem writeRow_mem {r : RegName} (h : r ≠ .ctrl) : writeRow r ∈ txnRows :=
  List.mem_of_getElem? (i := 2 * r.index.toNat + if r.index.toNat ≤ 1 then 1 else 2) (by
    cases r with
    | ctrl => exact absurd rfl h
    | _ => rfl)

theorem ctrlRow_mem (start : Bool) : ctrlRow start ∈ txnRows :=
  List.mem_of_getElem? (i := 3 + start.toNat) (by cases start <;> rfl)

/-- Every word matches a row, and decodes to its instruction. -/
theorem exists_row (w : BitVec 37) :
    ∃ r ∈ txnRows, w &&& r.mask = r.pattern ∧ decodeTxn w = r.build (w.setWidth 32) := by
  rw [setWidth_eq_txnData]
  have kept := and_rowMask w
  cases we : txnWe w with
  | false =>
    rw [we] at kept
    refine ⟨readRow (regOfIndex (txnIdx w)), readRow_mem _, ?_, decodeTxn_read we⟩
    rw [readRow, index_regOfIndex, kept]
  | true =>
    rw [we] at kept
    rw [decodeTxn_write we]
    by_cases ctrl : regOfIndex (txnIdx w) = .ctrl
    · have idx : txnIdx w = 1#4 := by rw [← index_regOfIndex (txnIdx w), ctrl]; rfl
      have keptCtrl := and_ctrlMask w
      rw [we, idx] at keptCtrl
      rw [ctrl]
      refine ⟨ctrlRow ((txnData w).getLsbD 0), ctrlRow_mem _, ?_⟩
      cases start : (txnData w).getLsbD 0 with
      | true =>
        rw [start] at keptCtrl
        exact ⟨keptCtrl, writeOf_ctrl_start start⟩
      | false =>
        rw [start] at keptCtrl
        exact ⟨keptCtrl, writeOf_ctrl_nop start⟩
    · refine ⟨writeRow (regOfIndex (txnIdx w)), writeRow_mem ctrl, ?_, rfl⟩
      rw [writeRow, index_regOfIndex, kept]

/-! ### No word matches two rows -/

/-- Two masks occur in the table, and the narrower one exactly in the rows of a CTRL write. -/
theorem row_masks :
    ∀ q ∈ txnRows, (q.mask = 0x1F00000000#37 ∧ q.pattern ≠ 0x1100000000#37) ∨
      (q.mask = 0x1F00000001#37 ∧ q.pattern &&& 0x1F00000000#37 = 0x1100000000#37) := by
  decide

/-- The mask of a row that a word matches follows from the word's WE and IDX. -/
theorem mask_of_match {w : BitVec 37} {q : TableRow} (hq : q ∈ txnRows) (h : w &&& q.mask = q.pattern) :
    q.mask = if w &&& 0x1F00000000#37 = 0x1100000000#37 then 0x1F00000001#37 else 0x1F00000000#37 := by
  rcases row_masks q hq with ⟨mask, pattern⟩ | ⟨mask, pattern⟩ <;> rw [mask] at h ⊢
  · rw [if_neg (h ▸ pattern)]
  · have ctrl : w &&& 0x1F00000000#37 = 0x1100000000#37 := by
      calc w &&& 0x1F00000000#37 = w &&& 0x1F00000001#37 &&& 0x1F00000000#37 := by rw [BitVec.and_assoc]; rfl
        _ = 0x1100000000#37 := by rw [h, pattern]
    rw [if_pos ctrl]

/-- Settles O4: the word fixes the mask of the row, and the mask and the word fix the pattern. -/
theorem everyWordMatchesOneTableRow : Obligations.EveryWordMatchesOneTableRow := by
  intro w
  obtain ⟨r, hr, matched, decoded⟩ := exists_row w
  refine ⟨decodeTxn_wf w, r, hr, matched, decoded, fun q hq also => ?_⟩
  have mask : q.mask = r.mask := (mask_of_match hq also).trans (mask_of_match hr matched).symm
  exact ⟨by rw [← also, mask, matched], mask⟩

end Sys2Proof.Machine
end

section
/-! PROOFS. From a word to what it does (family 30_encoding): the host port, a table row's bits, the register map, and
the pseudo-instructions (30_encoding R91, R93, R94, R104). -/

namespace Sys2Proof.Machine

/-! ### Words that the spec writes out -/

/-- Settles O1: the words and codes are fixed, so the decoder evaluates on them. -/
theorem specWordsDecode : Obligations.SpecWordsDecode := by
  unfold Obligations.SpecWordsDecode
  decide

/-- Settles O52: the operands are fixed but for the number of polls, each of which is the same word. -/
theorem pseudoInstructionsExpandToWords : Obligations.PseudoInstructionsExpandToWords := by
  refine ⟨?policy, ?dims, ?src, ?dst, ?start, ?classify, fun k => ?wait⟩
  case wait =>
    have poll : encode .rdStatus = .txn37 0x0200000000#37 := by decide
    rw [expand, List.map_replicate, poll]
  all_goals decide

/-! ### Where a step takes its word from -/

/-- Settles O21: each arm of `exec` answers a next state. -/
theorem everyInstructionCompletes : Obligations.EveryInstructionCompletes := exec_completes

theorem toNat_portIndex (off : BitVec 6) : (portIndex off).toNat = off.toNat / 4 := by
  have bound := off.isLt
  rw [portIndex, BitVec.extractLsb'_toNat, Nat.shiftRight_eq_div_pow]
  omega

/-- Settles O7: the access is the transaction of the word whose IDX is the offset's bits 5:2. -/
theorem portOffsetSelectsRegister : Obligations.PortOffsetSelectsRegister := by
  intro s rest we off data h
  refine ⟨txnOfPort we off data, ?_, step_of_pending_cons h⟩
  rw [txnOfPort, toNat_txnWord, toNat_portIndex]

/-- The bits of a table row decode by way of their code word. -/
theorem decodeTableWord_some {nbits w : Nat} {i : Instr} (h : decodeTableWord nbits w = some i) :
    ∃ e, tableEncoded nbits w = some e ∧ decode e = i := by
  unfold decodeTableWord decodeBytes at h
  unfold tableEncoded
  cases bytes : tableBytes nbits w with
  | none => simp [bytes] at h
  | some bs =>
    cases word : encodedOfBytes bs with
    | error r => simp [bytes, word] at h
    | ok e => exact ⟨e, by simp [word], by simpa [bytes, word] using h⟩

/-- A code word placed as the next event is performed by the next step, on the state it was placed in. -/
theorem step_present (s : State) (e : Encoded) : step (s.present e) = exec (decode e) s := by
  rw [step_of_pending_cons (s := s.present e) rfl]
  cases e <;> rfl

/-- Settles O6: the row's bits stand for a code word, which the next step performs. -/
theorem placedWordRunsNext : Obligations.PlacedWordRunsNext := by
  intro s nbits w i h
  obtain ⟨e, word, rfl⟩ := decodeTableWord_some h
  have placed : s.withFetchWord nbits w = s.present e := by
    simp only [State.withFetchWord, State.presentTableWord, word]
  rw [placed, step_present]

/-! ### The register map -/

/-- The read of a register returns its value (42_host_access R220). -/
theorem exec_readOf (r : RegName) (s : State) : exec (readOf r) s = hostRead (readReg r s) s := by
  cases r <;> rfl

/-- What a read returns after a write to the same register (30_encoding R93, R94). -/
def readBack (r : RegName) (data : Word) (s : State) : Word :=
  if readBackMask r = 0#32 ∨ (s.busy = true ∧ r ≠ .pixel) then readReg r s else data &&& readBackMask r

variable {r : RegName} {data : Word} {s : State}

theorem readBack_readOnly (h : readBackMask r = 0#32) : readBack r data s = readReg r s :=
  if_pos (.inl h)

/-- A register that is frozen while BUSY = 1, and stores DATA under its mask while BUSY = 0. -/
theorem readReg_unlessBusy {f : State → State} (writable : readBackMask r ≠ 0#32) (freezes : r ≠ .pixel)
    (stored : readReg r (f s) = data &&& readBackMask r) : readReg r (unlessBusy f s) = readBack r data s := by
  cases busy : s.busy with
  | true => rw [unlessBusy_busy busy, readBack, if_pos (.inr ⟨busy, freezes⟩)]
  | false =>
    have stores : ¬ (readBackMask r = 0#32 ∨ (s.busy = true ∧ r ≠ .pixel)) := by simp [writable, busy]
    rw [unlessBusy_idle busy, readBack, if_neg stores, stored]

/-- CFG stores two fields of DATA, and its mask is theirs (42_host_access R228). -/
theorem cfgWord_setCfg (s : State) (data : Word) : cfgWord (s.setCfg data) = data &&& 0x00000707#32 := by
  have mask : ∀ i : Fin 32, (0x00000707#32).getLsbD i =
      if (i : Nat) < 8 then decide ((i : Nat) < 3) else decide ((i : Nat) - 8 < 3) := by decide
  refine BitVec.eq_of_getLsbD_eq fun i hi => ?_
  rw [BitVec.getLsbD_and, mask ⟨i, hi⟩, getLsbD_cfgWord]
  split_ifs with low
  · simp [dataMode, Bool.and_comm]
  · simp [dataChannels, Bool.and_comm, show 8 + (i - 8) = i by omega]

/-- The mask of a register that holds DATA whole. -/
theorem and_wholeMask (data : Word) : data = data &&& 0xFFFFFFFF#32 :=
  (BitVec.and_allOnes (x := data)).symm

/-- A write completes, and leaves the register at what a read is to return: a read-only register and CTRL keep their
value, a configuration register freezes, and PIXEL always takes DATA. -/
theorem exec_writeOf_readBack (r : RegName) (data : Word) (s : State) :
    ∃ t, exec (writeOf r data) s = .next t ∧ readReg r t = readBack r data s := by
  cases r with
  | id | status | bytes | cls | rsv15 => exact ⟨s, rfl, (readBack_readOnly rfl).symm⟩
  | ctrl =>
    obtain ⟨t, completes⟩ := exec_completes (writeOf .ctrl data) s
    have holdsNothing : readReg .ctrl t = readReg .ctrl s := rfl
    exact ⟨t, completes, holdsNothing.trans (readBack_readOnly rfl).symm⟩
  | cfg => exact ⟨_, rfl, readReg_unlessBusy (by decide) (by decide) (cfgWord_setCfg s data)⟩
  | cthr | athr | width | height =>
    exact ⟨_, rfl, readReg_unlessBusy (by decide) (by decide) (setWidth_extract_low data (by decide))⟩
  | srcBase | srcLen | dstBase | dstLen =>
    exact ⟨_, rfl, readReg_unlessBusy (by decide) (by decide) (and_wholeMask data)⟩
  | pixel =>
    have stores : ¬ (readBackMask .pixel = 0#32 ∨ (s.busy = true ∧ RegName.pixel ≠ .pixel)) := by
      simp [readBackMask]
    refine ⟨s.setPixel data, rfl, ?_⟩
    rw [readBack, if_neg stores]
    exact and_wholeMask data

/-- Settles O17: the two words decode to the write and the read of the register, and the read shows what the write
left. -/
theorem registerMapReadsBackMasked : Obligations.RegisterMapReadsBackMasked := by
  intro r data other s
  obtain ⟨t, written, value⟩ := exec_writeOf_readBack r data s
  refine ⟨t, by rw [decodeTxn_txnWord_write, written], ?_⟩
  rw [decodeTxn_txnWord_read, exec_readOf, value]
  rfl

end Sys2Proof.Machine
end

section
/-! PROOFS. The classifier (family 40_classifier): its outputs in exact arithmetic, the legality and decision of each
mode, and its levels against the source's real thresholds. -/

namespace Sys2Proof.Machine

/-! ### The outputs in exact arithmetic -/

/-- Legality of a MODE3 code and a channel count, as numbers (40_classifier R134). -/
theorem pairLegal_modeOfCode (mode n : BitVec 3) :
    pairLegal (modeOfCode mode) n =
      decide (mode.toNat ≤ 3 ∧ (n.toNat = 3 ∨ n.toNat = 4) ∧ (mode.toNat = 3 ∨ n.toNat = 4)) := by
  revert mode n; decide

/-- The decision of a legal code, as a choice by its number (40_classifier R135 to R138). -/
theorem modeDecision_modeOfCode {mode : BitVec 3} (legal : mode.toNat ≤ 3) (cbit abit : Bool) :
    modeDecision (modeOfCode mode) cbit abit =
      if mode.toNat = 0 then cbit && abit
      else if mode.toNat = 1 then cbit || abit
      else if mode.toNat = 2 then abit
      else cbit := by
  revert mode cbit abit; decide

/-- A mode that uses alpha is legal with four channels alone (40_classifier R134). -/
theorem pairLegal_of_modeUsesAlpha {m : PolicyMode} (uses : modeUsesAlpha m = true) (n : BitVec 3) :
    pairLegal m n = decide (n.toNat = 4) := by
  revert n
  cases m with
  | colorAndAlpha | colorOrAlpha | onlyAlpha => decide
  | ignoreAlpha | invalid => cases uses

/-- The mode that ignores alpha is legal with three channels and with four (40_classifier R134). -/
theorem pairLegal_ignoreAlpha (n : BitVec 3) :
    pairLegal .ignoreAlpha n = decide (n.toNat = 3 ∨ n.toNat = 4) := by
  revert n; decide

theorem classify_eq (r g b a : Byte) (n : BitVec 3) (m : PolicyMode) (cthr : BitVec 10) (athr : BitVec 8) :
    classify r g b a n m cthr athr =
      { bit := pairLegal m n &&
          modeDecision m (decide (r.toNat + g.toNat + b.toNat > cthr.toNat)) (decide (a.toNat > athr.toNat))
        ok := pairLegal m n
        cbit := decide (r.toNat + g.toNat + b.toNat > cthr.toNat)
        abit := decide (a.toNat > athr.toNat) } := by
  rw [classify, colorBit_eq, alphaBit_eq]

/-- Settles O25: a legal code is one of the four that decide, and without legality BIT is 0. -/
theorem classifierIsTheWholeFunction : Obligations.ClassifierIsTheWholeFunction := by
  intro r g b a n mode cthr athr cbit abit ok
  have legality : pairLegal (modeOfCode mode) n = ok := pairLegal_modeOfCode mode n
  rw [pcls, classify_eq, legality]
  cases legal : ok with
  | false => rfl
  | true =>
    obtain ⟨code, -⟩ := of_decide_eq_true legal
    rw [modeDecision_modeOfCode code]
    rfl

/-! ### The mode codes -/

/-- A mode on the test classifier's port shows the outputs for PIXEL and the registers as they are, and changes nothing
else (10_state R36, log 4). -/
theorem driveMode_eq (m : PolicyMode) (s : State) :
    driveMode m s =
      .next { s with
        observed := .pclsPorts
          { bit := pairLegal m s.channels &&
              modeDecision m (decide (pixelSum s.pixel > s.cthr.toNat)) (decide ((pixelA s.pixel).toNat > s.athr.toNat))
            ok := pairLegal m s.channels
            cbit := decide (pixelSum s.pixel > s.cthr.toNat)
            abit := decide ((pixelA s.pixel).toNat > s.athr.toNat) } :: s.observed } := by
  rw [driveMode, testPcls, classify_eq]
  rfl

/-- Settles O26: each code drives its mode, whose legality the channel count decides. -/
theorem modeCodesDecideAsTheirRules : Obligations.ModeCodesDecideAsTheirRules := by
  intro s c a rgba either
  have usesAlpha {m : PolicyMode} (uses : modeUsesAlpha m = true) :
      driveMode m s =
        .next { s with observed := .pclsPorts ⟨rgba && modeDecision m c a, rgba, c, a⟩ :: s.observed } := by
    rw [driveMode_eq, pairLegal_of_modeUsesAlpha uses]
  refine ⟨usesAlpha rfl, usesAlpha rfl, usesAlpha rfl, ?ignoreAlpha, fun _ => driveMode_eq .invalid s⟩
  case ignoreAlpha =>
    show driveMode .ignoreAlpha s = _
    rw [driveMode_eq, pairLegal_ignoreAlpha]
    rfl

/-! ### Levels and thresholds -/

/-- The level of a threshold in [0, 1] is within its range. -/
theorem floor_mul_le (top : ℕ) {t : ℝ} (le_one : t ≤ 1) : ⌊(top : ℝ) * t⌋₊ ≤ top :=
  Nat.floor_le_of_le (mul_le_of_le_one_right top.cast_nonneg le_one)

/-- A level that its register holds decides the color as the number it is. -/
theorem colorBit_ofNat_iff {level : ℕ} (fits : level < 2 ^ 10) (r g b : Byte) :
    colorBit r g b (BitVec.ofNat 10 level) = true ↔ level < r.toNat + g.toNat + b.toNat := by
  rw [colorBit_eq, decide_eq_true_iff, BitVec.toNat_ofNat, Nat.mod_eq_of_lt fits, gt_iff_lt]

/-- A level that its register holds decides alpha as the number it is. -/
theorem alphaBit_ofNat_iff {level : ℕ} (fits : level < 2 ^ 8) (a : Byte) :
    alphaBit a (BitVec.ofNat 8 level) = true ↔ level < a.toNat := by
  rw [alphaBit_eq, decide_eq_true_iff, BitVec.toNat_ofNat, Nat.mod_eq_of_lt fits, gt_iff_lt]

/-- Settles O27: the floors fit their registers, and a natural number exceeds a real where it exceeds its floor. -/
theorem thresholdLevelsLoseNothing : Obligations.ThresholdLevelsLoseNothing := by
  refine ⟨fun k q nonneg => (Nat.floor_lt nonneg).symm, fun t u r g b a t_nonneg t_le u_nonneg u_le => ?_⟩
  have colorLevel : ⌊765 * t⌋₊ ≤ 765 := floor_mul_le 765 t_le
  have alphaLevel : ⌊255 * u⌋₊ ≤ 255 := floor_mul_le 255 u_le
  refine ⟨colorLevel, alphaLevel, ?color, ?alpha⟩
  case color =>
    have top : (255 * 3 * t : ℝ) = 765 * t := by norm_num
    rw [colorBit_ofNat_iff (by omega), Nat.floor_lt (by positivity), top]
  case alpha =>
    rw [alphaBit_ofNat_iff (by omega), Nat.floor_lt (by positivity)]

/-- Three bytes sum to 765 at most, so a level from there on is not exceeded (40_classifier R132). -/
theorem colorBit_top {cthr : BitVec 10} (top : 765 ≤ cthr.toNat) (r g b : Byte) : colorBit r g b cthr = false := by
  rw [colorBit_eq, decide_eq_false_iff_not]
  have hr := r.isLt
  have hg := g.isLt
  have hb := b.isLt
  omega

/-- No byte exceeds 255 (40_classifier R133). -/
theorem alphaBit_top {athr : BitVec 8} (top : athr.toNat = 255) (a : Byte) : alphaBit a athr = false := by
  rw [alphaBit_eq, decide_eq_false_iff_not]
  have ha := a.isLt
  omega

/-- No check of START reads a level (41_packer R172 to R182). -/
theorem firstViolation_levels (s : State) (c : BitVec 10) (a : BitVec 8) :
    firstViolation { s with cthr := c, athr := a } = firstViolation s := rfl

/-- Settles O28: no pixel exceeds a level at the top, and the checks read neither level. -/
theorem topLevelsNeverFire : Obligations.TopLevelsNeverFire := fun s =>
  ⟨colorBit_top, alphaBit_top, firstViolation_levels s⟩

end Sys2Proof.Machine
end

section
/-! PROOFS. START and the byte count (family 41_packer): which check a START reports, what an accepted one enables, and
what BYTES reads as (41_packer R172, R183, R190). -/

namespace Sys2Proof.Machine

variable {s : State}

/-! ### The byte count -/

/-- The words of a read's table row decode to the read, whatever DATA is (30_encoding R90). -/
theorem encodes_readRow (r : RegName) : Encodes (readRow r).pattern (readRow r).mask (readRow r).build := by
  intro w matched
  have fields : txnWord (txnWe w) (txnIdx w) 0#32 = txnWord false r.index 0#32 := (and_rowMask w).symm.trans matched
  have we : txnWe w = false := by simpa using congrArg txnWe fields
  have idx : txnIdx w = r.index := by simpa using congrArg txnIdx fields
  rw [decodeTxn_read we, idx, regOfIndex_index]
  rfl

theorem dimsValid_iff {w h : BitVec 16} :
    dimsValid w h = true ↔ 0 < w.toNat ∧ 0 < h.toNat ∧ w.toNat % 8 = 0 ∧ h.toNat % 8 = 0 := by
  simp only [dimsValid, Bool.and_eq_true, decide_eq_true_eq, and_assoc]

theorem bytesWord_invalid {w h : BitVec 16} (invalid : ¬ dimsValid w h = true) : bytesWord w h = 0#32 :=
  if_neg invalid

/-- Settles O11: RD_BYTES returns `bytesWord`, whose two cases are the valid and the invalid dimensions. -/
theorem bytesReadReturnsExactCount : Obligations.BytesReadReturnsExactCount := by
  refine ⟨encodes_readRow .bytes, fun s => ⟨bytesWord s.width s.height, rfl, fun valid => ?_, fun invalid => ?_⟩⟩
  · exact toNat_bytesWord (dimsValid_iff.mpr valid)
  · exact bytesWord_invalid (mt dimsValid_iff.mp invalid)

/-! ### A START that fails a check -/

theorem exec_start_idle (idle : s.busy = false) (data : Word) :
    exec (.wrCtrlStart data) s = .next s.startChecked :=
  congrArg Host.Outcome.next (unlessBusy_idle idle)

theorem startChecked_reported {v : Violation} (fails : firstViolation s = some v) :
    s.startChecked = s.clearReport.raiseViolation v := by
  simp [State.startChecked, fails]

/-- STATUS of a report: DONE, ERR and the code (60_exceptions R262). -/
theorem statusWord_raiseViolation (idle : s.busy = false) (v : Violation) :
    statusWord (s.raiseViolation v) = BitVec.ofNat 32 (0x00000006 + (violationCode v).toNat * 2 ^ 8) := by
  have code := (violationCode v).isLt
  refine BitVec.eq_of_toNat_eq ?_
  rw [toNat_statusWord, BitVec.toNat_ofNat]
  simp only [State.raiseViolation, idle, Bool.toNat_true, Bool.toNat_false]
  omega

/-- The code of the first failing check as a number, and 0 where every check passes (30_encoding R98). -/
def codeNumber : Option Violation → Nat
  | none => 0
  | some v => (violationCode v).toNat

/-- Settles O19: the chain of checks is that of `firstViolation`, with a code for each cause and 0 where none fails. -/
theorem startReportsFirstFailingCheck : Obligations.StartReportsFirstFailingCheck := by
  intro data s idle W H n m code failed
  have number : codeNumber (firstViolation s) = code := by
    simp only [firstViolation, apply_ite codeNumber]
    rfl
  cases first : firstViolation s with
  | none => exact absurd (by rw [← number, first]; rfl) failed
  | some v =>
    have codeOf : (violationCode v).toNat = code := by rw [← number, first]; rfl
    refine ⟨_, exec_start_idle idle data, ?_, ?_⟩ <;> rw [startChecked_reported first, ← codeOf]
    · rw [BitVec.ofNat_toNat, BitVec.setWidth_eq]
      rfl
    · exact statusWord_raiseViolation (s := s.clearReport) idle v

/-! ### A START that is accepted -/

theorem statusWord_acceptStart (s : State) : statusWord s.clearReport.acceptStart = 0x00000001#32 :=
  BitVec.eq_of_toNat_eq (by simp [toNat_statusWord])

/-- An accepted START leaves the conversion at the first group of an image that passes the checks (41_packer R183). -/
theorem acceptStart_legal (passes : firstViolation s = none) : s.clearReport.acceptStart.ConversionLegal := by
  obtain ⟨w_ne, h_ne, -⟩ := firstViolation_none.mp passes
  exact fun _ => ⟨passes, Nat.pos_of_ne_zero h_ne, Nat.pos_of_ne_zero w_ne⟩

/-- Where both regions are admitted, so are the accesses of a legal conversion's next group step. -/
theorem stepAccesses_admitted (hl : s.ConversionLegal) (ha : s.CursorAligned) (hb : s.busy = true)
    (admits : ∀ a, s.inSrc a = true ∨ s.inDst a = true → s.admitted a = true) :
    ∀ a ∈ s.stepAccesses, s.admitted a = true := by
  obtain ⟨reads, write⟩ := stepAccesses_regions hl ha hb
  intro a access
  rcases List.mem_append.mp access with read | written
  · exact admits a (.inl (reads a read))
  · obtain rfl := List.mem_singleton.mp written
    exact admits _ (.inr write)

/-- In a legal conversion the Engine's turn is the group step: its accesses are below 2^32, so regions apart and
accesses admitted are all it asks for. -/
theorem engineTurn_legal (hl : s.ConversionLegal) (ha : s.CursorAligned) (hb : s.busy = true)
    (apart : s.regionsOverlap = false) (admitted : ∀ a ∈ s.stepAccesses, s.admitted a = true) :
    engineTurn s = .next s.groupStep :=
  engineTurn_enabled hb apart (stepAccesses_below hl ha hb) admitted

/-- Settles O20: the hypotheses are the checks, and the accepted START leaves a legal conversion at column 0. -/
theorem acceptedStartEnablesEngine : Obligations.AcceptedStartEnablesEngine := by
  intro data s idle w_ne h_ne w8 h8 mode channels alpha srcLen dstLen srcRange dstRange
  have passes : firstViolation s = none :=
    firstViolation_none.mpr ⟨w_ne, h_ne, w8, h8, mode, channels, alpha, srcLen, dstLen, srcRange, dstRange⟩
  refine ⟨s.clearReport.acceptStart, ?_, rfl, statusWord_acceptStart s, fun apart admits => ?_⟩
  · rw [exec_start_idle idle, startChecked_accepted passes]
  · have legal := acceptStart_legal passes
    exact engineTurn_legal legal rfl rfl apart (stepAccesses_admitted legal rfl rfl admits)

end Sys2Proof.Machine
end

section
/-! PROOFS. The group step (family 41_packer): the byte it packs, and the cursor's way through the image (41_packer R186
to R189). -/

namespace Sys2Proof.Machine

variable {s : State}

/-! ### The byte -/

/-- A group step changes memory, the record of accesses, the cursor, BUSY and DONE. -/
theorem groupStep_frame (s : State) :
    s.groupStep =
      { s with mem := s.groupStep.mem, traffic := s.groupStep.traffic, curY := s.groupStep.curY,
               curXg := s.groupStep.curXg, busy := s.groupStep.busy, done := s.groupStep.done } := by
  unfold State.groupStep State.advance
  split_ifs <;> rfl

/-- The two forms of a group's offset: a row of pixels is a whole number of bytes (41_packer R186). -/
theorem pixel_div_eight {w : Nat} (hw : w % 8 = 0) (y xg : Nat) : (y * w + xg) / 8 = y * (w / 8) + xg / 8 := by
  have row : y * w = 8 * (y * (w / 8)) := by
    calc y * w = y * (8 * (w / 8)) := by rw [show 8 * (w / 8) = w by omega]
      _ = 8 * (y * (w / 8)) := by ring
  rw [row, Nat.mul_add_div (by decide)]

/-- Settles O29: the step writes the group's byte at the group's address, and its bits are those of the pixels. -/
theorem groupStepPacksEightPixels : Obligations.GroupStepPacksEightPixels := by
  intro s hm hl ha hb apart admitted
  obtain ⟨-, -, hw, -⟩ := conversion_numbers hl hb
  refine ⟨s.groupStep, engineTurn_legal hl ha hb apart admitted, fun pos h => ?bits, fun a other => ?others,
    pixel_div_eight hw _ _, ?below, groupStep_frame s⟩
  case bits =>
    have written : s.groupStep.mem.read (groupWrite s s.xg s.y) = groupByte s s.mem s.xg s.y := by
      rw [groupStep_mem, read_write_same hm.1]
    calc _ = (groupByte s s.mem s.xg s.y).getLsbD pos := congrArg (BitVec.getLsbD · pos) written
      _ = pixelBit s s.mem (s.xg + pos) s.y := getLsbD_groupByte s s.mem s.xg s.y h
      _ = imageBit s s.mem (s.xg + pos) s.y := pixelBit_eq_imageBit s s.mem _ _
  case others =>
    rw [groupStep_mem]
    exact read_write_other hm.1 other _
  case below => exact stepAccesses_below hl ha hb (groupWrite s s.xg s.y) (by simp [State.stepAccesses])

/-! ### The cursor -/

theorem groupStep_groupsDone (s : State) : s.groupStep.groupsDone = s.advance.groupsDone := by
  simp only [State.groupsDone, State.y, State.xg, State.w, groupStep_curY, groupStep_curXg, groupStep_width,
    advance_width]

theorem atLastGroup_iff_cursor : s.atLastGroup = true ↔ s.y + 1 = s.h ∧ s.xg + 8 = s.w := by
  simp only [State.atLastGroup, Bool.and_eq_true, decide_eq_true_eq]

/-- The last group leaves the cursor at (H, 0) (41_packer R188). -/
theorem groupStep_cursor_of_last (hy : s.y < s.h) (last : s.atLastGroup = true) :
    s.groupStep.curY = s.height ∧ s.groupStep.curXg = 0#16 := by
  obtain ⟨lastRow, lastColumn⟩ := atLastGroup_iff_cursor.mp last
  rw [groupStep_curY, groupStep_curXg]
  rcases advance_cursor hy with ⟨more, -, -⟩ | ⟨-, x, y⟩
  · omega
  · exact ⟨BitVec.eq_of_toNat_eq (y.trans lastRow), BitVec.eq_of_toNat_eq x⟩

/-- Completion turns STATUS from BUSY alone to DONE alone (41_packer R189). -/
theorem statusWord_groupStep_of_last (last : s.atLastGroup = true) (running : statusWord s = 0x00000001#32) :
    statusWord s.groupStep = 0x00000002#32 := by
  have fields := toNat_statusWord s
  rw [running] at fields
  refine BitVec.eq_of_toNat_eq ?_
  rw [toNat_statusWord]
  simp only [groupStep_err, groupStep_errCode, groupStep_done, groupStep_busy, last, if_true, Bool.toNat_true,
    Bool.toNat_false, BitVec.toNat_ofNat] at fields ⊢
  omega

/-- Settles O30: the cursor advances, the group's number goes up by one, and the last group is where both say so. -/
theorem groupStepAdvancesRowMajor : Obligations.GroupStepAdvancesRowMajor := by
  intro s hl ha hb apart admitted
  obtain ⟨-, -, hw, -, hy, hx, -, -⟩ := conversion_numbers hl hb
  have cursor := advance_cursor hy
  refine ⟨s.groupStep, engineTurn_legal hl ha hb apart admitted, fun more => ?sameRow, fun done => ?nextRow,
    fun notLast => ?running, fun atLast => ?completes, rfl, ?number, groupsDone_lt hw hy hx, ?lastNumber⟩
  case sameRow =>
    rw [groupStep_curXg, groupStep_curY]
    rcases cursor with ⟨-, x, y⟩ | ⟨done, -, -⟩
    · exact ⟨x, BitVec.eq_of_toNat_eq y⟩
    · exact absurd more done
  case nextRow =>
    rw [groupStep_curXg, groupStep_curY]
    rcases cursor with ⟨more, -, -⟩ | ⟨-, x, y⟩
    · exact absurd more done
    · exact ⟨BitVec.eq_of_toNat_eq x, y⟩
  case running => exact statusWord_groupStep (Bool.eq_false_iff.mpr (mt atLastGroup_iff_cursor.mp notLast))
  case completes =>
    have last := atLastGroup_iff_cursor.mpr atLast
    obtain ⟨curY, curXg⟩ := groupStep_cursor_of_last hy last
    exact ⟨by rw [groupStep_busy, if_pos last], by rw [groupStep_done, if_pos last], groupStep_err s,
      groupStep_errCode s, curY, curXg, statusWord_groupStep_of_last last⟩
  case number => rw [groupStep_groupsDone, advance_groupsDone ha hw hy hx]
  case lastNumber => exact atLastGroup_iff_cursor.symm.trans (atLastGroup_iff ha hw hy hx)

end Sys2Proof.Machine
end

section
/-! PROOFS. Determinism (family 41_packer): the bitmap a conversion leaves is a function of its source bytes, dimensions
and policy (41_packer R191). -/

namespace Sys2Proof.Machine

variable {s s' : State}

/-! ### The run of a started conversion -/

/-- The run from START through all groups: its last step is the group step of the last group. -/
theorem run_to_last_group (hm : s.MemoryCanonical) (h : s.Startable) (start : s.StartPending) :
    ∃ u k, core.run (1 + s.dstBytes) s = .next u.groupStep ∧ u.Converting ∧ GroupsTaken s.started u k ∧
      u.groupsDone + 1 = s.dstBytes := by
  have conv := started_converting hm h
  obtain ⟨w_pos, h_pos, hw, -⟩ := conversion_numbers conv.good.legal conv.busy
  have positive : 0 < s.dstBytes := Nat.mul_pos (show 0 < s.started.w / 8 by omega) h_pos
  obtain ⟨k, all⟩ := Nat.exists_eq_succ_of_ne_zero positive.ne'
  have fewer : s.started.groupsDone + k < s.started.dstBytes := by
    rw [started_groupsDone, show s.started.dstBytes = k.succ from all]
    omega
  obtain ⟨u, run, last, taken⟩ := conv.run fewer
  refine ⟨u, k, ?_, last, taken, ?_⟩
  · rw [Nat.add_comm, run_succ (step_start h start), all, run_succ_last run last.step]
  · rw [taken.groupsDone, started_groupsDone, all, Nat.zero_add]

/-- At the end of the run every DST byte has its final value. -/
theorem run_leaves_final_bytes (hm : s.MemoryCanonical) (h : s.Startable) (start : s.StartPending) :
    ∃ t, core.run (1 + s.dstBytes) s = .next t ∧
      ∀ k, k < s.dstBytes → t.mem.read (s.dstBase.toNat + k) = finalByte s.started k := by
  obtain ⟨u, _, run, conv, taken, all⟩ := run_to_last_group hm h start
  refine ⟨u.groupStep, run, fun k hk => ?_⟩
  have base : u.dstBase = s.dstBase := taken.dstBase
  have inside : k < u.dstBytes := taken.dstBytes_eq ▸ hk
  rw [← base, groupStep_read_dst conv.canonical conv.good conv.busy inside, all, if_pos hk, taken.finalByte_eq]

/-! ### Equal inputs -/

/-- What R191 lets the bitmap depend on is equal: the source bytes, at whatever address, the dimensions, the channel
count, the mode and the levels. -/
structure EqualInputs (s s' : State) : Prop where
  width : s.width = s'.width
  height : s.height = s'.height
  channels : s.channels = s'.channels
  mode : s.mode = s'.mode
  cthr : s.cthr = s'.cthr
  athr : s.athr = s'.athr
  source : ∀ i, i < s.srcBytes → s.mem.read (s.srcBase.toNat + i) = s'.mem.read (s'.srcBase.toNat + i)

theorem EqualInputs.dstBytes_eq (e : EqualInputs s s') : s.dstBytes = s'.dstBytes := by
  simp only [State.dstBytes, State.w, State.h, e.width, e.height]

/-- Channel `c` of pixel (x, y) is the same byte. -/
theorem EqualInputs.channel_eq (e : EqualInputs s s') {x y c : Nat} (hx : x < s.w) (hy : y < s.h) (hc : c < s.n) :
    s.mem.read (pixelAddr s x y + c) = s'.mem.read (pixelAddr s' x y + c) := by
  have inside : (y * s.w + x) * s.n + c < s.srcBytes := by
    calc (y * s.w + x) * s.n + c < s.n * (s.w * s.h) := group_lt (group_lt hy hx) hc
      _ = s.srcBytes := Nat.mul_comm _ _
  have same : (y * s'.w + x) * s'.n = (y * s.w + x) * s.n := by
    simp only [State.w, State.n, e.width, e.channels]
  rw [pixelAddr, pixelAddr, same, Nat.add_assoc, Nat.add_assoc]
  exact e.source _ inside

/-- So every pixel of the image has the same bit. -/
theorem EqualInputs.pixelBit_eq (e : EqualInputs s s') (hn : s.n = 3 ∨ s.n = 4) {x y : Nat} (hx : x < s.w)
    (hy : y < s.h) : pixelBit s s.mem x y = pixelBit s' s'.mem x y := by
  have r : s.mem.read (pixelAddr s x y) = s'.mem.read (pixelAddr s' x y) := e.channel_eq (c := 0) hx hy (by omega)
  have g := e.channel_eq (c := 1) hx hy (by omega)
  have b := e.channel_eq (c := 2) hx hy (by omega)
  have count : s'.n = s.n := congrArg BitVec.toNat e.channels.symm
  simp only [pixelBit, count, r, g, b, e.channels, e.mode, e.cthr, e.athr]
  rcases hn with three | four
  · simp only [three, if_neg (show ¬ 3 = 4 by decide)]
  · rw [if_pos four, if_pos four, e.channel_eq (c := 3) hx hy (by omega)]

/-- The columns and the row of a group lie inside the image (41_packer R188). -/
theorem group_inside {k pos : Nat} (hk : k < s.dstBytes) (hp : pos < 8) :
    groupColumn s k + pos < s.w ∧ groupRow s k < s.h := by
  have row : groupRow s k < s.h := Nat.div_lt_of_lt_mul hk
  have positive : 0 < s.w / 8 := Nat.pos_of_ne_zero fun zero => by simp [State.dstBytes, zero] at hk
  have column : k % (s.w / 8) < s.w / 8 := Nat.mod_lt k positive
  refine ⟨?_, row⟩
  rw [groupColumn]
  omega

/-- So every byte of the bitmap has the same final value, each taken from the memory at its own START. -/
theorem EqualInputs.finalByte_eq (e : EqualInputs s s') (hn : s.n = 3 ∨ s.n = 4) {k : Nat} (hk : k < s.dstBytes) :
    finalByte s.started k = finalByte s'.started k := by
  have group : groupColumn s' k = groupColumn s k ∧ groupRow s' k = groupRow s k := by
    simp only [groupColumn, groupRow, State.w, e.width, and_self]
  have bit (u : State) {pos : Nat} (hp : pos < 8) : (finalByte u.started k).getLsbD pos =
      pixelBit u u.mem (groupColumn u k + pos) (groupRow u k) := getLsbD_groupByte u.started u.mem _ _ hp
  refine BitVec.eq_of_getLsbD_eq fun pos hp => ?_
  obtain ⟨column, row⟩ := group_inside hk hp
  rw [bit s hp, bit s' hp, group.1, group.2, e.pixelBit_eq hn column row]

/-- Settles O50: each run leaves the final bytes of its START, and these depend on the equal inputs alone. -/
theorem equalInputsGiveEqualBitmaps : Obligations.EqualInputsGiveEqualBitmaps := by
  intro s s' hm hm' h h' start start' width height channels mode cthr athr source groups
  have equal : EqualInputs s s' := ⟨width, height, channels, mode, cthr, athr, source⟩
  obtain ⟨-, -, -, -, -, hn, -⟩ := firstViolation_none.mp h.checks
  obtain ⟨t, run, bytes⟩ := run_leaves_final_bytes hm h start
  obtain ⟨t', run', bytes'⟩ := run_leaves_final_bytes hm' h' start'
  rw [← equal.dstBytes_eq] at run' bytes'
  refine ⟨t, t', run, run', fun k hk => ?_⟩
  rw [bytes k hk, bytes' k hk, equal.finalByte_eq hn hk]

end Sys2Proof.Machine
end

section
/-! PROOFS. STATUS stays legal (family 42_host_access): each effect of a step leaves STATUS, or sets it to a legal value
whole (42_host_access R225, 10_state R24). -/

namespace Sys2Proof.Machine

variable {s t : State}

/-- Legality is about the STATUS word alone. -/
theorem statusLegal_congr (same : statusWord t = statusWord s) (legal : s.StatusLegal) : t.StatusLegal := by
  rwa [State.StatusLegal, same]

/-- The legal values with BUSY set are one: DONE, ERR and a code stand only in values with BUSY clear (42_host_access
R225). -/
theorem statusWord_of_busy (legal : s.StatusLegal) (busy : s.busy = true) : statusWord s = 0x00000001#32 := by
  have odd : (statusWord s).toNat % 2 = 1 := by
    rw [toNat_statusWord, busy, Bool.toNat_true]
    omega
  rcases legal with idle | running | done | ⟨code, -, -, report⟩
  · simp [idle] at odd
  · exact running
  · simp [done] at odd
  · rw [report, BitVec.toNat_ofNat] at odd
    omega

/-- The ten causes have the codes 1 to 10; 11 to 15 are never produced (30_encoding R98). -/
theorem violationCode_range (v : Violation) : 1 ≤ (violationCode v).toNat ∧ (violationCode v).toNat ≤ 10 := by
  cases v <;> decide

/-- A START that finds BUSY = 0 ends in a report with a code, or with BUSY alone, whatever STATUS was before
(41_packer R172, R183). -/
theorem startChecked_statusLegal (idle : s.busy = false) : s.startChecked.StatusLegal := by
  rcases startChecked_cases s with ⟨v, -, reported⟩ | ⟨-, accepted⟩
  · obtain ⟨low, high⟩ := violationCode_range v
    rw [reported]
    exact .inr (.inr (.inr ⟨_, low, high, statusWord_raiseViolation (s := s.clearReport) idle v⟩))
  · rw [accepted]
    exact .inr (.inl (statusWord_acceptStart s))

/-- A group step leaves STATUS, or completes, where STATUS was BUSY alone and becomes DONE alone (41_packer R189). -/
theorem groupStep_statusLegal (legal : s.StatusLegal) (busy : s.busy = true) : s.groupStep.StatusLegal := by
  cases last : s.atLastGroup with
  | false => exact statusLegal_congr (statusWord_groupStep last) legal
  | true => exact .inr (.inr (.inl (statusWord_groupStep_of_last last (statusWord_of_busy legal busy))))

/-- Settles O40: by the effects of a step, of which START, a group step and reset reach STATUS. -/
theorem stepKeepsStatusLegal : Obligations.StepKeepsStatusLegal := by
  intro s t legal h
  have taken : s.eventTaken.StatusLegal := statusLegal_congr (quiet_eventTaken s).status legal
  cases step_next h with
  | quiet same => exact statusLegal_congr same.status legal
  | config _ write =>
    obtain ⟨-, -, status⟩ := write.frame
    exact statusLegal_congr status taken
  | start idle _ eq => exact eq ▸ startChecked_statusLegal (s := s.eventTaken) idle
  | group busy _ _ eq => exact eq ▸ groupStep_statusLegal taken busy
  | reset _ eq => exact eq ▸ .inl (statusWord_resetBlock _)
  | store addr v _ eq => exact eq ▸ statusLegal_congr (s := s.eventTaken) rfl taken

end Sys2Proof.Machine
end

section
/-! PROOFS. The reads (family 42_host_access): a row's words decode to the read of a register, and the read returns the
register's value and changes nothing but the record of what the host saw (42_host_access R220, log 3). -/

namespace Sys2Proof.Machine

/-- A read's whole effect (42_host_access R220). -/
theorem exec_readOf_next (r : RegName) (s : State) :
    exec (readOf r) s = .next { s with observed := .hostRead (readReg r s) :: s.observed } :=
  exec_readOf r s

/-- Settles O8: the nine rows and the nine reads are those of the configuration registers, by name. -/
theorem configurationReadsReturnFields : Obligations.ConfigurationReadsReturnFields :=
  ⟨⟨encodes_readRow .cfg, encodes_readRow .cthr, encodes_readRow .athr, encodes_readRow .width,
      encodes_readRow .height, encodes_readRow .srcBase, encodes_readRow .srcLen, encodes_readRow .dstBase,
      encodes_readRow .dstLen⟩,
    fun s => ⟨exec_readOf_next .cfg s, exec_readOf_next .cthr s, exec_readOf_next .athr s, exec_readOf_next .width s,
      exec_readOf_next .height s, exec_readOf_next .srcBase s, exec_readOf_next .srcLen s,
      exec_readOf_next .dstBase s, exec_readOf_next .dstLen s⟩⟩

/-- Settles O9: three of the registers hold nothing, so their values are constants in every state. -/
theorem fixedReadsReturnConstants : Obligations.FixedReadsReturnConstants :=
  ⟨⟨encodes_readRow .id, encodes_readRow .ctrl, encodes_readRow .rsv15, encodes_readRow .pixel⟩,
    fun s => ⟨exec_readOf_next .id s, exec_readOf_next .ctrl s, exec_readOf_next .rsv15 s, exec_readOf_next .pixel s⟩⟩

/-- Settles O10: the value is the STATUS word, whose number is the sum of its fields. -/
theorem statusReadReturnsFlags : Obligations.StatusReadReturnsFlags := fun s =>
  ⟨statusWord s, exec_readOf_next .status s, toNat_statusWord s⟩

/-- Settles O12: the value is the CLASS word of the test classifier's outputs with CFG.MODE on its mode port. -/
theorem classReadReturnsClassifierOutputs : Obligations.ClassReadReturnsClassifierOutputs :=
  ⟨encodes_readRow .cls, fun s =>
    ⟨classWord (testPcls s (modeOfCode s.mode)), exec_readOf_next .cls s, toNat_classWord _⟩⟩

end Sys2Proof.Machine
end

section
/-! PROOFS. The writes (family 42_host_access): to a register that holds none of DATA, to a configuration register, and
to PIXEL (30_encoding R93, R94, 42_host_access R223 to R253). -/

namespace Sys2Proof.Machine

variable {s u : State}

/-! ### The rows of the writes -/

/-- A word has one direction, one register and one DATA (30_encoding R90). -/
theorem txnWord_inj {we we' : Bool} {idx idx' : BitVec 4} {data data' : Word}
    (same : txnWord we idx data = txnWord we' idx' data') : we = we' ∧ idx = idx' ∧ data = data' :=
  ⟨by simpa using congrArg txnWe same, by simpa using congrArg txnIdx same, by simpa using congrArg txnData same⟩

/-- The words of a write's table row decode to the write, with the word's DATA (30_encoding R90). -/
theorem encodes_writeRow (r : RegName) : Encodes (writeRow r).pattern (writeRow r).mask (writeRow r).build := by
  intro w matched
  obtain ⟨we, idx, -⟩ := txnWord_inj ((and_rowMask w).symm.trans matched)
  rw [decodeTxn_write we, idx, regOfIndex_index, setWidth_eq_txnData]
  rfl

/-- The words of the CTRL row whose mask keeps DATA[0] = 0 decode to the write without effect (42_host_access R223). -/
theorem encodes_ctrlNop : Encodes 0x1100000000#37 0x1F00000001#37 .wrCtrlNop := by
  intro w matched
  have ctrl : (0x1100000000#37 : BitVec 37) = txnWord true (RegName.index .ctrl) 0#32 := rfl
  obtain ⟨we, idx, bit⟩ := txnWord_inj ((and_ctrlMask w).symm.trans (matched.trans ctrl))
  have nop : (txnData w).getLsbD 0 = false := by simpa using bit
  rw [decodeTxn_write we, idx, regOfIndex_index, writeOf_ctrl_nop nop, setWidth_eq_txnData]

/-! ### Writes without effect -/

/-- A register with no writable bit, and no trigger, keeps the whole state through a write (30_encoding R93). -/
theorem exec_writeOf_readOnly {r : RegName} (readOnly : readBackMask r = 0#32) (noTrigger : r ≠ .ctrl) (data : Word)
    (s : State) : exec (writeOf r data) s = .next s := by
  cases r with
  | id | status | bytes | cls | rsv15 => rfl
  | ctrl => exact absurd rfl noTrigger
  | cfg | cthr | athr | width | height | srcBase | srcLen | dstBase | dstLen | pixel =>
    exact absurd readOnly (by decide)

/-- Settles O13: five of the registers are read-only, and the CTRL row with DATA[0] = 0 is no trigger. -/
theorem readOnlyWritesChangeNothing : Obligations.ReadOnlyWritesChangeNothing := by
  refine ⟨⟨encodes_writeRow .id, encodes_writeRow .bytes, encodes_writeRow .cls, encodes_writeRow .rsv15,
    encodes_ctrlNop, encodes_writeRow .status⟩, fun data s => ?_⟩
  have unchanged (r : RegName) (readOnly : readBackMask r = 0#32) (noTrigger : r ≠ .ctrl) :=
    exec_writeOf_readOnly readOnly noTrigger data s
  exact ⟨unchanged .id rfl (by decide), unchanged .bytes rfl (by decide), unchanged .cls rfl (by decide),
    unchanged .rsv15 rfl (by decide), rfl, unchanged .status rfl (by decide)⟩

/-! ### Writes that BUSY = 1 freezes -/

/-- The answer of a write to a configuration register (10_state R38, 30_encoding R93). -/
theorem next_unlessBusy (store : State → State) (s : State) :
    (.next (unlessBusy store s) : Result) = .next (if s.busy = true then s else store s) :=
  rfl

/-- Settles O14: each write stores its register's fields unless BUSY = 1. -/
theorem configurationWritesStoreFields : Obligations.ConfigurationWritesStoreFields :=
  ⟨⟨encodes_writeRow .cfg, encodes_writeRow .cthr, encodes_writeRow .athr, encodes_writeRow .width,
      encodes_writeRow .height, encodes_writeRow .srcBase, encodes_writeRow .srcLen, encodes_writeRow .dstBase,
      encodes_writeRow .dstLen⟩,
    fun data s => ⟨next_unlessBusy (·.setCfg data) s, next_unlessBusy (·.setCthr data) s,
      next_unlessBusy (·.setAthr data) s, next_unlessBusy (·.setWidth data) s, next_unlessBusy (·.setHeight data) s,
      next_unlessBusy (·.setSrcBase data) s, next_unlessBusy (·.setSrcLen data) s,
      next_unlessBusy (·.setDstBase data) s, next_unlessBusy (·.setDstLen data) s⟩⟩

/-! ### The write that is never frozen -/

/-- The engine's turn shows the host nothing. -/
theorem engineTurn_observed (h : engineTurn s = .next u) : u.observed = s.observed := by
  rcases engineTurn_next h with ⟨-, rfl⟩ | ⟨-, -, -, ⟨-, rfl⟩ | ⟨-, rfl⟩⟩
  · rfl
  · exact groupStep_observed s
  · rfl

/-- The engine's turn neither reads nor writes PIXEL (42_host_access R248). -/
theorem engineTurn_setPixel (h : engineTurn s = .next u) (data : Word) :
    engineTurn (s.setPixel data) = .next (u.setPixel data) := by
  have onlyPixel : u.withHostSide data s.observed = u.setPixel data := by
    rw [← engineTurn_observed h]
    rfl
  rw [← onlyPixel]
  exact engineTurn_withHostSide h data s.observed

/-- Settles O16: the write is `setPixel`, BUSY or not, and the engine's turn commutes with it. -/
theorem pixelWriteIsNeverFrozen : Obligations.PixelWriteIsNeverFrozen :=
  ⟨encodes_writeRow .pixel, fun data _ => ⟨rfl, rfl, rfl, rfl, rfl, fun _ turn => engineTurn_setPixel turn data⟩⟩

end Sys2Proof.Machine
end

section
/-! PROOFS. The idle engine (family 60_exceptions): with BUSY = 0 the Engine has no enabled step, and a state in which
nothing is pending is its own next state (60_exceptions R273, 70_reset R292). -/

namespace Sys2Proof.Machine

variable {s : State}

/-- With nothing pending an idle state is its own next state, whether the schedule gives the Engine the turn or not. -/
theorem step_idle_unlisted (idle : s.busy = false) (hp : s.pending = []) : step s = .next s := by
  rw [step_of_pending_nil hp]
  cases fair : s.fair with
  | true => rw [unlistedTurn_fair fair, engineTurn_idle idle]
  | false => exact unlistedTurn_unfair fair

/-- Settles O33: an idle engine's turn changes nothing, so that with nothing pending the state is a fixed point of every
run. -/
theorem idleStateSurvives : Obligations.IdleStateSurvives :=
  fun _ idle => ⟨engineTurn_idle idle, fun hp => run_fixed (step_idle_unlisted idle hp)⟩

end Sys2Proof.Machine
end

section
/-! PROOFS. Reset and dropped writes (family 70_reset_and_hazards): what the reset step leaves, and what BUSY = 1 drops
(70_reset R290, R291, R294, R297). -/

namespace Sys2Proof.Machine

variable {s : State}

/-! ### Writes that BUSY = 1 drops -/

/-- A write that BUSY = 1 freezes leaves the whole state (10_state R38). -/
theorem next_unlessBusy_of_busy (hb : s.busy = true) (f : State → State) :
    (.next (unlessBusy f s) : Result) = .next s :=
  congrArg Host.Outcome.next (unlessBusy_busy hb)

/-- Settles O15: each of the nine writes is frozen while BUSY = 1. -/
theorem configurationWritesDroppedWhileBusy : Obligations.ConfigurationWritesDroppedWhileBusy := by
  intro data s hb i hi
  simp only [List.mem_cons, List.not_mem_nil, or_false] at hi
  rcases hi with rfl | rfl | rfl | rfl | rfl | rfl | rfl | rfl | rfl <;> exact next_unlessBusy_of_busy hb _

/-- Settles O18: so is the START. -/
theorem startWhileBusyIsDropped : Obligations.StartWhileBusyIsDropped :=
  fun _ _ hb => next_unlessBusy_of_busy hb State.startChecked

/-! ### The reset step -/

theorem step_of_reset {rest : List Event} (h : s.pending = .reset :: rest) :
    step s = .next (s.withPending rest).resetBlock :=
  step_of_pending_cons h

/-- A register reads after a reset as it does in the state right after power-on, whatever the state was (10_state
R42). -/
theorem readReg_resetBlock (r : RegName) (s : State) : readReg r s.resetBlock = readReg r State.reset := by
  cases r <;> rfl

/-- Settles O37: the sixteen values are those of the state right after power-on, and reset touches neither memory nor
the memory port. -/
theorem resetSetsEveryRegister : Obligations.ResetSetsEveryRegister := by
  intro s rest hp
  refine ⟨_, step_of_reset hp, ?_, rfl, rfl, rfl, rfl, rfl, rfl, rfl, rfl, rfl, rfl⟩
  simp only [readReg_resetBlock]
  decide

/-- Settles O38: reset leaves memory, and a good conversion's DST bytes are final below the number of groups taken and
from before the START from there on. -/
theorem resetLeavesDestinationPrefix : Obligations.ResetLeavesDestinationPrefix := by
  intro s rest hg hb hp
  obtain ⟨-, -, hw, -, hy, hx, -, -⟩ := conversion_numbers hg.legal hb
  refine ⟨_, step_of_reset hp, statusWord_resetBlock _, groupsDone_lt hw hy hx, fun k hk => ?_⟩
  have byte : (s.withPending rest).resetBlock.mem.read (s.dstBase.toNat + k) =
      if k < s.groupsDone then finalByte s k else s.startMem.read (s.dstBase.toNat + k) := hg.destination hb k hk
  refine ⟨fun before => ?_, fun taken pos hpos => ?_⟩
  · rw [byte, if_neg (Nat.not_lt_of_le before)]
  · rw [byte, if_pos taken, getLsbD_finalByte s k hpos]
    rfl

end Sys2Proof.Machine
end

section
/-! PROOFS. Polls and the end of a run (family 70_reset_and_hazards): an unfair schedule never completes a conversion,
and what is observed at the end of a run stays (70_reset R299, R300). -/

namespace Sys2Proof.Machine

variable {s t : State}

/-! ### STATUS polls -/

/-- Bit 0 of STATUS is BUSY (30_encoding R95). -/
theorem getLsbD_zero_statusWord (s : State) : (statusWord s).getLsbD 0 = s.busy := by
  rw [BitVec.getLsbD, Nat.testBit_zero, toNat_statusWord]
  cases s.busy <;> simp <;> omega

/-- The state in which `polls` STATUS reads, and nothing else that was pending, have been performed. -/
def State.polled (s : State) (polls : Nat) : State :=
  { s with pending := [], observed := List.replicate polls (.hostRead (statusWord s)) ++ s.observed }

/-- A poll shows STATUS and changes nothing else (42_host_access R225). -/
theorem step_of_poll {rest : List Event} (h : s.pending = .txn 0x0200000000#37 :: rest) :
    step s = .next ((s.withPending rest).observe (.hostRead (statusWord s))) :=
  step_of_pending_cons h

/-- A run takes one step for each pending poll. -/
theorem run_polls {polls : Nat} (hp : s.pending = List.replicate polls (.txn 0x0200000000#37)) (k : Nat) :
    core.run (polls + k) s = core.run k (s.polled polls) := by
  induction polls generalizing s with
  | zero =>
    have polled : s.polled 0 = s.withPending [] := rfl
    rw [Nat.zero_add, polled, ← eventTaken_of_nil hp, State.eventTaken, hp]
    rfl
  | succ polls ih =>
    have one_more : ((s.withPending (List.replicate polls (.txn 0x0200000000#37))).observe
        (.hostRead (statusWord s))).polled polls = s.polled (polls + 1) := by
      simp only [State.polled, List.replicate_succ', List.append_assoc]
      rfl
    rw [Nat.succ_add_eq_add_succ, Nat.add_succ, run_succ (step_of_poll hp), ih rfl, one_more]

/-- Settles O47: the polls leave BUSY and the schedule as they are, and without events an unfair schedule leaves the
state. -/
theorem unfairScheduleNeverCompletes : Obligations.UnfairScheduleNeverCompletes := by
  intro s polls hb unfair hp
  refine ⟨(getLsbD_zero_statusWord s).trans hb, fun k => ?_⟩
  have still : step (s.polled polls) = .next (s.polled polls) :=
    (step_of_pending_nil rfl).trans (unlistedTurn_unfair unfair)
  rw [run_polls hp, run_fixed still]
  rfl

/-! ### The end of a run -/

/-- A mode code drives its mode on the test classifier's port (log 4). -/
theorem exec_decodeMode (m : BitVec 3) (s : State) : exec (decodeMode m) s = driveMode (modeOfCode m) s := by
  unfold decodeMode
  cases modeOfCode m <;> rfl

/-- Everything a step can do once the run has ended: show the outside an output, leave the state, reset, or store a
byte. -/
theorem State.RunEnded.step_next (ended : s.RunEnded) (h : step s = .next t) :
    (∃ o, t = s.eventTaken.observe o) ∨ t = s.eventTaken ∨
      ((∃ rest, s.pending = .reset :: rest) ∧ t = s.eventTaken.resetBlock) ∨ ∃ addr v, s.StoreStep t addr v := by
  obtain ⟨noTransaction, idle⟩ := ended
  rcases step_cases s with ⟨hp, -⟩ | ⟨e, rest, hp, hs⟩
  · rw [step_idle_unlisted idle hp] at h
    exact .inr (.inl (by rw [eventTaken_of_nil hp, Host.Outcome.next.inj h]))
  · rw [hs, ← eventTaken_of_cons hp] at h
    have other := noTransaction e (by simp [hp])
    cases e with
    | txn w => exact Bool.noConfusion other
    | port we off data => exact Bool.noConfusion other
    | modeCode m => exact .inl ⟨_, driveMode_next.mp ((exec_decodeMode m _).symm.trans h)⟩
    | engine =>
      have unchanged := engineTurn_idle (s := s.eventTaken) idle
      exact .inr (.inl (Host.Outcome.next.inj (unchanged.symm.trans h)).symm)
    | reset => exact .inr (.inr (.inl ⟨⟨rest, hp⟩, (Host.Outcome.next.inj h).symm⟩))
    | load addr =>
      have settled := platformLoad_settled (s := s.eventTaken) (addr := addr) (.inl idle)
      exact .inl ⟨_, (Host.Outcome.next.inj (settled.symm.trans h)).symm⟩
    | store addr v => exact .inr (.inr (.inr ⟨addr, v, ⟨rest, hp⟩, (platformStore_next h).2⟩))

/-- No event begins a transaction of its own, and none but START sets BUSY. -/
theorem State.RunEnded.step (ended : s.RunEnded) (h : step s = .next t) : t.RunEnded := by
  obtain ⟨pending, -, -⟩ := step_frame h
  refine ⟨fun e later => ended.1 e (List.mem_of_mem_tail (pending ▸ later)), ?_⟩
  rcases ended.step_next h with ⟨o, rfl⟩ | rfl | ⟨-, rfl⟩ | ⟨addr, v, -, rfl⟩
  · exact ended.2
  · exact ended.2
  · rfl
  · exact ended.2

/-- Settles O48: what the step shows, and the list of events, are no part of the observation. -/
theorem endedRunKeepsObservation : Obligations.EndedRunKeepsObservation := by
  intro s t ended h
  refine ⟨ended.step h, fun noReset noStore => ?_⟩
  have same : t.observation = s.observation := by
    rcases ended.step_next h with ⟨o, rfl⟩ | rfl | ⟨⟨rest, hp⟩, -⟩ | ⟨addr, v, ⟨rest, hp⟩, -⟩
    · rfl
    · rfl
    · exact absurd hp (noReset rest)
    · exact absurd hp (noStore addr v rest)
  exact ⟨congrArg Prod.fst same, congrArg Prod.snd same, same⟩

end Sys2Proof.Machine
end

section
/-! PROOFS. A conversion under way (family 70_reset_and_hazards): under a weakly fair schedule each of its steps takes a
pending event or a group (70_reset R299). -/

namespace Sys2Proof.Machine

variable {s t u : State}

/-! ### A conversion under way -/

/-- A good conversion that nothing stops or disturbs: its regions are apart and admitted, the schedule is weakly fair,
and the pending events are no reset and no store into its regions (70_reset R299, logs 1 and 2). -/
structure State.UnderWay (s : State) : Prop where
  canonical : s.MemoryCanonical
  good : s.Good
  status : statusWord s = 0x00000001#32
  fair : s.fair = true
  apart : s.regionsOverlap = false
  admits : ∀ a, s.inSrc a = true ∨ s.inDst a = true → s.admitted a = true
  undisturbed : s.Undisturbed

theorem State.UnderWay.busy (c : s.UnderWay) : s.busy = true := by
  rw [← getLsbD_zero_statusWord, c.status]
  rfl

theorem State.UnderWay.noReset (c : s.UnderWay) (rest : List Event) : s.pending ≠ .reset :: rest := fun hp =>
  (c.undisturbed .reset (by simp [hp])).1 rfl

/-- It is under way as long as BUSY = 1: the invariants pass through every step, and its configuration is frozen. -/
theorem State.UnderWay.step (c : s.UnderWay) (h : step s = .next t) (busy : t.busy = true) : t.UnderWay := by
  have same := sameConversion_of_busy_step h c.busy c.noReset
  obtain ⟨pending, fair, admits⟩ := step_frame h
  have legal : t.StatusLegal := stepKeepsStatusLegal s t (.inr (.inl c.status)) h
  refine ⟨stepKeepsMemoryCanonical s t c.canonical h, stepKeepsConversionGood s t c.canonical c.good h,
    statusWord_of_busy legal busy, fair.trans c.fair, same.regionsOverlap_eq.trans c.apart, fun a inside => ?_,
    fun e later => ?_⟩
  · rw [same.inSrc_eq, same.inDst_eq] at inside
    rw [admitted_congr admits]
    exact c.admits a inside
  · simp only [same.inSrc_eq, same.inDst_eq]
    exact c.undisturbed e (List.mem_of_mem_tail (pending ▸ later))

/-! ### One step of it -/

/-- The Engine's turn is the group step. -/
theorem State.UnderWay.step_engine (c : s.UnderWay) (next : s.EngineIsNext) :
    Machine.step s = .next s.eventTaken.groupStep := by
  have admitted := stepAccesses_admitted c.good.legal c.good.aligned c.busy c.admits
  rw [step_of_engineIsNext next]
  exact engineTurn_legal (s := s.eventTaken) c.good.legal c.good.aligned c.busy c.apart admitted

/-- A load of regions apart answers, whether it races or not. -/
theorem platformLoad_apart (apart : s.regionsOverlap = false) (addr : Word) : ∃ t, platformLoad addr s = .next t := by
  cases hb : s.busy with
  | false => exact ⟨_, platformLoad_settled (.inl hb)⟩
  | true =>
    cases inside : s.inDst addr.toNat with
    | false => exact ⟨_, platformLoad_settled (.inr inside)⟩
    | true => exact ⟨_, platformLoad_racing hb inside apart⟩

/-- Any other event that may be pending answers a next state. -/
theorem State.UnderWay.step_other (c : s.UnderWay) (other : ¬ s.EngineIsNext) : ∃ t, Machine.step s = .next t := by
  rcases step_cases s with ⟨hp, -⟩ | ⟨e, rest, hp, hs⟩
  · exact absurd (.inl ⟨hp, c.fair⟩) other
  · rw [hs]
    obtain ⟨noReset, outside⟩ := c.undisturbed e (by simp [hp])
    cases e with
    | txn w => exact exec_completes _ _
    | port we off data => exact exec_completes _ _
    | modeCode m => exact exec_completes _ _
    | engine => exact absurd (.inr ⟨rest, hp⟩) other
    | reset => exact absurd rfl noReset
    | load addr => exact platformLoad_apart (s := s.withPending rest) c.apart addr
    | store addr v =>
      obtain ⟨notSrc, notDst⟩ := outside addr v rfl
      have elsewhere : ¬ (s.busy = true ∧ (s.inSrc addr.toNat = true ∨ s.inDst addr.toNat = true)) := by
        simp [notSrc, notDst]
      exact ⟨_, platformStore_performed (s := s.withPending rest) elsewhere v⟩

/-- While BUSY = 1 a step that is neither the Engine's turn nor a reset leaves the engine where it stands. -/
theorem engineStill_of_other_step (hb : s.busy = true) (other : ¬ s.EngineIsNext)
    (noReset : ∀ rest, s.pending ≠ .reset :: rest) (h : step s = .next t) : EngineStill s t := by
  cases step_next h with
  | quiet same => exact same.engineStill
  | config idle _ => simp [hb] at idle
  | start idle _ _ => simp [hb] at idle
  | group _ _ next _ => exact absurd next other
  | reset next _ =>
    obtain ⟨rest, hp⟩ := next
    exact absurd hp (noReset rest)
  | store addr v _ eq => exact eq ▸ ⟨rfl, rfl, rfl, rfl, rfl⟩

/-! ### Groups taken -/

/-- An engine that stands still takes no group. -/
theorem EngineStill.groupsTaken (h : EngineStill s t) (same : SameConversion s t) : GroupsTaken s t 0 := by
  refine ⟨same, ?_, h.traffic⟩
  simp only [State.groupsDone, State.y, State.xg, State.w, h.curY, h.curXg, same.width]
  rfl

/-- The Engine's turn takes one. -/
theorem State.UnderWay.groupsTaken (c : s.UnderWay) : GroupsTaken s s.eventTaken.groupStep 1 := by
  have good : s.eventTaken.Good := (quiet_eventTaken s).good c.good
  obtain ⟨-, done, -, traffic, -⟩ := groupStep_facts (s := s.eventTaken) c.canonical good c.busy
  exact ⟨{ sameConversion_groupStep s.eventTaken with }, done, traffic⟩

theorem SameConversion.trans (h : SameConversion s u) (k : SameConversion u t) : SameConversion s t :=
  ⟨k.mode.trans h.mode, k.channels.trans h.channels, k.cthr.trans h.cthr, k.athr.trans h.athr, k.width.trans h.width,
    k.height.trans h.height, k.srcBase.trans h.srcBase, k.srcLen.trans h.srcLen, k.dstBase.trans h.dstBase,
    k.dstLen.trans h.dstLen, k.startMem.trans h.startMem⟩

theorem GroupsTaken.trans {i j : Nat} (h : GroupsTaken s u i) (k : GroupsTaken u t j) : GroupsTaken s t (i + j) := by
  refine ⟨h.toSameConversion.trans k.toSameConversion, ?_, ?_⟩
  · rw [k.groupsDone, h.groupsDone, Nat.add_assoc]
  · rw [k.traffic, h.traffic, h.groupAccess_eq, h.groupsDone, ← List.range'_append_1, List.map_append,
      List.reverse_append, List.append_assoc]

/-! ### Steps left -/

/-- How many steps a conversion can still take: one for each pending event and each group left. -/
def State.stepsLeft (s : State) : Nat := s.pending.length + (s.dstBytes - s.groupsDone)

theorem State.UnderWay.groupsDone_lt (c : s.UnderWay) : s.groupsDone < s.dstBytes := by
  obtain ⟨-, -, hw, -, hy, hx, -, -⟩ := conversion_numbers c.good.legal c.busy
  exact Machine.groupsDone_lt hw hy hx

/-- A step that takes an event or a group leaves fewer steps. -/
theorem GroupsTaken.stepsLeft_lt {i : Nat} (h : GroupsTaken s t i) (c : s.UnderWay) (step : step s = .next t)
    (takes : s.pending ≠ [] ∨ 0 < i) : t.stepsLeft < s.stepsLeft := by
  obtain ⟨pending, -, -⟩ := step_frame step
  have more := c.groupsDone_lt
  rw [← List.length_pos_iff] at takes
  simp only [State.stepsLeft, pending, List.length_tail, h.dstBytes_eq, h.groupsDone]
  omega

/-- Before the Engine's turn at the last group, a step keeps the conversion under way and leaves fewer steps. -/
theorem State.UnderWay.step_leaves_fewer (c : s.UnderWay) (before : ¬ (s.EngineIsNext ∧ s.atLastGroup = true)) :
    ∃ t i, Machine.step s = .next t ∧ t.UnderWay ∧ GroupsTaken s t i ∧ t.stepsLeft < s.stepsLeft := by
  by_cases next : s.EngineIsNext
  · have notLast : ¬ s.eventTaken.atLastGroup = true := fun last => before ⟨next, last⟩
    have busy : s.eventTaken.groupStep.busy = true := by
      rw [groupStep_busy, if_neg notLast]
      exact c.busy
    have step := c.step_engine next
    exact ⟨_, 1, step, c.step step busy, c.groupsTaken, c.groupsTaken.stepsLeft_lt c step (.inr Nat.one_pos)⟩
  · obtain ⟨t, step⟩ := c.step_other next
    have still := engineStill_of_other_step c.busy next c.noReset step
    have taken := still.groupsTaken (sameConversion_of_busy_step step c.busy c.noReset)
    have listed : s.pending ≠ [] := fun hp => next (.inl ⟨hp, c.fair⟩)
    exact ⟨t, 0, step, c.step step (still.busy.trans c.busy), taken, taken.stepsLeft_lt c step (.inl listed)⟩

end Sys2Proof.Machine
end

section
/-! PROOFS. A conversion completes (family 70_reset_and_hazards): its run comes to the last group, whose group step
completes it (70_reset R299, 41_packer R189). -/

namespace Sys2Proof.Machine

variable {s t u : State}

/-! ### To the last group, and over it -/

/-- A run of a conversion under way comes to the Engine's turn at the last group, before its steps are used up. -/
theorem State.UnderWay.reaches_last_group (c : s.UnderWay) :
    ∃ k u i, core.run k s = .next u ∧ u.UnderWay ∧ u.EngineIsNext ∧ u.atLastGroup = true ∧ GroupsTaken s u i ∧
      k < s.stepsLeft := by
  induction left : s.stepsLeft using Nat.strong_induction_on generalizing s with
  | _ n ih =>
    subst left
    by_cases arrived : s.EngineIsNext ∧ s.atLastGroup = true
    · have positive : 0 < s.stepsLeft := Nat.add_pos_right _ (Nat.sub_pos_of_lt c.groupsDone_lt)
      exact ⟨0, s, 0, rfl, c, arrived.1, arrived.2, .zero s, positive⟩
    · obtain ⟨t, i, step, under, first, fewer⟩ := c.step_leaves_fewer arrived
      obtain ⟨k, u, j, run, conv, next, last, later, bound⟩ := ih _ fewer under rfl
      exact ⟨k + 1, u, i + j, (run_succ step k).trans run, conv, next, last, first.trans later, by omega⟩

/-- A completed conversion: STATUS shows DONE alone, the cursor is at (H, 0), and every pixel's bit is in its place
(41_packer R187, R189). -/
structure Completed (s t : State) : Prop where
  status : statusWord t = 0x00000002#32
  curY : t.curY = s.height
  curXg : t.curXg = 0#16
  bits : ∀ x y, x < s.width.toNat → y < s.height.toNat →
    (t.mem.read (s.dstBase.toNat + (y * (s.width.toNat / 8) + x / 8))).getLsbD (x % 8) = imageBit s s.startMem x y

/-- What a conversion is to leave depends on its configuration and the memory at its START. -/
theorem SameConversion.completed (same : SameConversion s u) (h : Completed u t) : Completed s t := by
  have image (x y : Nat) : imageBit u u.startMem x y = imageBit s s.startMem x y := by
    simp only [imageBit, same.srcBase, same.width, same.channels, same.mode, same.cthr, same.athr, same.startMem]
  refine ⟨h.status, h.curY.trans same.height, h.curXg, fun x y hx hy => ?_⟩
  rw [← same.width] at hx
  rw [← same.height] at hy
  rw [← same.width, ← same.dstBase, ← image]
  exact h.bits x y hx hy

/-- The Engine's turn at the last group completes the conversion. -/
theorem State.UnderWay.completes (c : s.UnderWay) (next : s.EngineIsNext) (last : s.atLastGroup = true) :
    Completed s s.eventTaken.groupStep := by
  have last' : s.eventTaken.atLastGroup = true := last
  obtain ⟨-, -, -, -, hy, -⟩ := conversion_numbers c.good.legal c.busy
  obtain ⟨curY, curXg⟩ := groupStep_cursor_of_last (s := s.eventTaken) hy last
  have idle : s.eventTaken.groupStep.busy = false := by rw [groupStep_busy, if_pos last']
  have done : s.eventTaken.groupStep.done = true := by rw [groupStep_done, if_pos last']
  exact ⟨statusWord_groupStep_of_last last' c.status, curY, curXg,
    completionShowsFinalBytes s _ c.canonical c.good (c.step_engine next) c.busy idle done⟩

/-- Settles O46: the run to the Engine's turn at the last group, and that turn. -/
theorem fairScheduleCompletes : Obligations.FairScheduleCompletes := by
  intro s canonical good status fair apart admits undisturbed groups
  have c : s.UnderWay := ⟨canonical, good, status, fair, apart, admits, undisturbed⟩
  obtain ⟨k, u, i, run, conv, next, last, before, bound⟩ := c.reaches_last_group
  obtain ⟨-, -, hw, -, hy, hx, -, -⟩ := conversion_numbers conv.good.legal conv.busy
  have all : u.groupsDone + 1 = groups :=
    ((atLastGroup_iff conv.good.aligned hw hy hx).mp last).trans before.dstBytes_eq
  have taken := before.trans conv.groupsTaken
  have completed := before.toSameConversion.completed (conv.completes next last)
  have poll := exec_readOf_next .status u.eventTaken.groupStep
  rw [show readReg .status u.eventTaken.groupStep = 0x00000002#32 from completed.status] at poll
  refine ⟨k + 1, _, _, run_succ_last run (conv.step_engine next), bound, taken.traffic, ?count, completed.status,
    completed.curY, completed.curXg, poll, completed.bits⟩
  case count => rw [List.length_reverse, List.length_map, List.length_range', ← Nat.add_assoc, ← before.groupsDone, all]

/-! ### With nothing else pending -/

/-- Every step keeps STATUS legal, so every run does. -/
theorem run_statusLegal {k : Nat} (legal : s.StatusLegal) (run : core.run k s = .next t) : t.StatusLegal := by
  induction k generalizing s with
  | zero => exact Host.Outcome.next.inj run ▸ legal
  | succ k ih =>
    obtain ⟨u, first, rest⟩ := run_succ_next run
    exact ih (stepKeepsStatusLegal s u legal first) rest

/-- A group step writes no byte outside DST (41_packer R186). -/
theorem State.Converting.groupStep_read_outside (c : s.Converting) {a : Nat} (outside : s.inDst a = false) :
    s.groupStep.mem.read a = s.mem.read a := by
  obtain ⟨-, written⟩ := stepAccesses_regions c.good.legal c.good.aligned c.busy
  rw [groupStep_mem, read_write_other c.canonical.1]
  rintro rfl
  simp [written] at outside

/-- Nor does a run of group steps. -/
theorem State.Converting.run_read_outside {k : Nat} (c : s.Converting) (hk : s.groupsDone + k < s.dstBytes)
    (run : core.run k s = .next t) {a : Nat} (outside : s.inDst a = false) : t.mem.read a = s.mem.read a := by
  induction k generalizing s with
  | zero => rw [Host.Outcome.next.inj run]
  | succ k ih =>
    obtain ⟨-, done, -⟩ := groupStep_facts c.canonical c.good c.busy
    have same := sameConversion_groupStep s
    rw [run_succ c.step] at run
    rw [ih (c.groupStep (by omega)) (by rw [done, same.dstBytes_eq]; omega) run (by rw [same.inDst_eq, outside]),
      c.groupStep_read_outside outside]

/-- A startable conversion after its START and `k` groups, before the last of them: BUSY alone, and outside DST every
byte as it was. -/
theorem run_before_completion (hm : s.MemoryCanonical) (h : s.Startable) (start : s.StartPending) {k : Nat}
    (hk : k < s.dstBytes) :
    ∃ u, core.run (1 + k) s = .next u ∧ u.Converting ∧ GroupsTaken s.started u k ∧ statusWord u = 0x00000001#32 ∧
      ∀ a, s.inDst a = false → u.mem.read a = s.mem.read a := by
  have conv := started_converting hm h
  have fewer : s.started.groupsDone + k < s.started.dstBytes := by
    rw [started_groupsDone, Nat.zero_add]
    exact hk
  obtain ⟨u, run, converting, taken⟩ := conv.run fewer
  have legal := run_statusLegal (.inr (.inl (statusWord_acceptStart (s.withPending [])))) run
  refine ⟨u, ?_, converting, taken, statusWord_of_busy legal converting.busy, fun a outside => ?_⟩
  · rw [Nat.add_comm, run_succ (step_start h start), run]
  · exact conv.run_read_outside fewer run outside

/-- A conversion with nothing pending is one that nothing disturbs. -/
theorem State.Converting.underWay (c : s.Converting) (status : statusWord s = 0x00000001#32) : s.UnderWay :=
  ⟨c.canonical, c.good, status, c.fair, c.apart, c.admits, fun e listed => by simp [c.alone] at listed⟩

/-- The run through all groups completes the conversion of the START, and leaves every byte outside DST. -/
theorem run_completes (hm : s.MemoryCanonical) (h : s.Startable) (start : s.StartPending) :
    ∃ t, core.run (1 + s.dstBytes) s = .next t ∧ Completed s.started t ∧
      ∀ a, s.inDst a = false → t.mem.read a = s.mem.read a := by
  have first := (started_converting hm h).underWay (statusWord_acceptStart _)
  have positive : 0 < s.dstBytes := Nat.zero_lt_of_lt first.groupsDone_lt
  obtain ⟨k, all⟩ := Nat.exists_eq_succ_of_ne_zero positive.ne'
  obtain ⟨u, run, conv, taken, status, outside⟩ := run_before_completion hm h start (all ▸ Nat.lt_succ_self k)
  obtain ⟨-, -, -, -, lastGroup, -⟩ := groupStep_facts conv.canonical conv.good conv.busy
  have last : u.atLastGroup = true := by
    rw [lastGroup, taken.groupsDone, started_groupsDone, Nat.zero_add, taken.dstBytes_eq]
    exact all.symm
  have completed := (conv.underWay status).completes (.inl ⟨conv.alone, conv.fair⟩) last
  rw [eventTaken_of_nil conv.alone] at completed
  refine ⟨u.groupStep, ?_, taken.toSameConversion.completed completed, fun a notDst => ?_⟩
  · rw [all, Nat.succ_eq_add_one, ← Nat.add_assoc, run_succ_last run conv.step]
  · rw [conv.groupStep_read_outside (by rw [taken.inDst_eq]; exact notDst), outside a notDst]

/-- Settles O45: the groups but the last leave BUSY, and the last one completes. -/
theorem startedConversionCompletes : Obligations.StartedConversionCompletes := by
  intro s hm h start groups
  refine ⟨fun k hk => ?busy, ?complete⟩
  case busy =>
    obtain ⟨u, run, -, -, status, -⟩ := run_before_completion hm h start hk
    exact ⟨u, run, status⟩
  case complete =>
    obtain ⟨t, run, completed, outside⟩ := run_completes hm h start
    exact ⟨t, run, completed.status, completed.curY, completed.curXg, completed.bits, outside⟩

end Sys2Proof.Machine
end
